-- ==== Sys2Proof/Word.lean ====
section
/-! DEFINITION. The bit-vector types of the ARDLIS S316 and the two levels of a pin. -/

namespace Sys2Proof

/-- A byte of a frame, a record or a counter of 0 to 255 (chapter 11). -/
abbrev Byte := BitVec 8

/-- A value of the count: a time or a span of ticks, modulo 2^32 (R1, R5). -/
abbrev Word := BitVec 32

/-- A ticket, 1 to 65535; 0 names no entry (R15, R16). -/
abbrev Ticket := BitVec 16

/-- The level of a pin or of an output line (R62, R110). -/
inductive Level where
  | low
  | high
  deriving DecidableEq, Repr

end Sys2Proof
end

