-- ==== Sys2Proof/Syntax.lean ====
section
/-! DEFINITION. The commands and events of the part: one constructor of `Instr` for each row of spec/opcode_table.json, with the row's operands. -/

namespace Sys2Proof

/-- A master, known inside the part by its port letter alone; port A and master A are the same thing (00_scope.md, Masters and ports). -/
inductive Master where
  | a
  | b
  | c
  deriving DecidableEq, Repr

/-- One of the two SPI ports (R173). -/
inductive SpiPort where
  | a
  | b
  deriving DecidableEq, Repr

/-- The strap levels as sampled: CFG1 CFG0, TICK1 TICK0 and ADDR2 to ADDR0 (R2, R185). -/
structure Straps where
  cfg  : BitVec 2
  tick : BitVec 2
  addr : BitVec 3
  deriving DecidableEq, Repr

/-- The twenty-two commands a frame can carry (R181); their codes are `Command.code`. -/
inductive Command where
  | nop
  | time
  | status
  | openSession
  | renew
  | close
  | claim
  | release
  | queryLine
  | post
  | cancel
  | cancelLine
  | queryEntry
  | subscribe
  | readCaptures
  | readInputs
  | readNotices
  | clearTrip
  | setQuota
  | setSafe
  | setInput
  | resetDevice
  deriving DecidableEq, Repr

/-- The rows of spec/opcode_table.json. A command row is a complete frame with a good CRC at the port of master `m`, with its tag
and its payload bytes (R170); an event row carries what the event names: a line, an input, a master, the levels sampled, the straps,
the bytes moved. -/
inductive Instr where
  | nop          (m : Master) (tag : Byte) (payload : List Byte)
  | time         (m : Master) (tag : Byte) (payload : List Byte)
  | status       (m : Master) (tag : Byte) (payload : List Byte)
  | openSession  (m : Master) (tag : Byte) (payload : List Byte)
  | renew        (m : Master) (tag : Byte) (payload : List Byte)
  | close        (m : Master) (tag : Byte) (payload : List Byte)
  | claim        (m : Master) (tag : Byte) (payload : List Byte)
  | release      (m : Master) (tag : Byte) (payload : List Byte)
  | queryLine    (m : Master) (tag : Byte) (payload : List Byte)
  | post         (m : Master) (tag : Byte) (payload : List Byte)
  | cancel       (m : Master) (tag : Byte) (payload : List Byte)
  | cancelLine   (m : Master) (tag : Byte) (payload : List Byte)
  | queryEntry   (m : Master) (tag : Byte) (payload : List Byte)
  | subscribe    (m : Master) (tag : Byte) (payload : List Byte)
  | readCaptures (m : Master) (tag : Byte) (payload : List Byte)
  | readInputs   (m : Master) (tag : Byte) (payload : List Byte)
  | readNotices  (m : Master) (tag : Byte) (payload : List Byte)
  | clearTrip    (m : Master) (tag : Byte) (payload : List Byte)
  | setQuota     (m : Master) (tag : Byte) (payload : List Byte)
  | setSafe      (m : Master) (tag : Byte) (payload : List Byte)
  | setInput     (m : Master) (tag : Byte) (payload : List Byte)
  | resetDevice  (m : Master) (tag : Byte) (payload : List Byte)
  | tick
  | dispatch
  | deadlineReached
  | lapse         (m : Master)
  | periodEnd     (line : Fin 16)
  | highPartEnd   (line : Fin 16)
  | inputSample   (levels : BitVec 8)
  | acceptedEdge  (input : Fin 8)
  | trip
  | reAssertion
  | powerOn        (straps : Straps)
  | resetNAsserted
  | resetNReleased (straps : Straps)
  | spiFrameStart  (p : SpiPort)
  | spiFrameEnd    (p : SpiPort) (bytes : List Byte)
  | i2cAddress     (address : BitVec 7) (read : Bool)
  | i2cWriteEnd    (bytes : List Byte)
  | i2cResponseDelivered
  | i2cReadEnd     (sent : Nat)
  | stallTimeout   (sent : Nat)
  | riseOfTripN
  | stopWhileNotAddressed
  deriving DecidableEq, Repr

end Sys2Proof
end

