-- ==== Sys2Proof/Decode.lean ====
section
/-! DEFINITION. The command codes of the frames, and the (empty) decoding of the opcode table's words: no row of the table gives bits. -/

namespace Sys2Proof

/-- The code of each command, from the rule that specifies it (R9, R19, R36, R38, R40, R41, R67, R70, R81, R83, R121 to R124, R131,
R133, R134, R141, R152, R164, R182, R183). -/
def Command.code : Command → Byte
  | .nop => 0x00
  | .time => 0x01
  | .status => 0x02
  | .openSession => 0x10
  | .renew => 0x11
  | .close => 0x12
  | .claim => 0x20
  | .release => 0x21
  | .queryLine => 0x22
  | .post => 0x30
  | .cancel => 0x31
  | .cancelLine => 0x32
  | .queryEntry => 0x33
  | .subscribe => 0x40
  | .readCaptures => 0x41
  | .readInputs => 0x42
  | .readNotices => 0x50
  | .clearTrip => 0x60
  | .setQuota => 0x70
  | .setSafe => 0x71
  | .setInput => 0x72
  | .resetDevice => 0x7F

/-- All commands, in the order of their codes. -/
def Command.all : List Command :=
  [.nop, .time, .status, .openSession, .renew, .close, .claim, .release, .queryLine, .post, .cancel, .cancelLine, .queryEntry,
   .subscribe, .readCaptures, .readInputs, .readNotices, .clearTrip, .setQuota, .setSafe, .setInput, .resetDevice]

/-- The command a code byte names, or none: then the frame is answered UNKNOWN_COMMAND (R181). -/
def Command.ofCode (b : Byte) : Option Command :=
  Command.all.find? fun c => c.code == b

/-- No row of spec/opcode_table.json gives bits, so no word spells a command (log 17). -/
def decodeTableWord (_nbits _w : Nat) : Option Instr := none

end Sys2Proof
end

