-- ==== Sys2Proof/Config.lean ====
section
/-! DEFINITION. The sizes of the part, the straps of the board that `State.reset` stands for, and the one free value: the order of events at one instant. -/

namespace Sys2Proof

/-- The slots of the entry pool (R12). -/
def Config.poolSize : Nat := 64

/-- The notices a notice queue holds (R149). -/
def Config.noticeCapacity : Nat := 16

/-- The records a capture queue holds (R117). -/
def Config.captureCapacity : Nat := 16

/-- The quota of each master after every reset (R14). -/
def Config.resetQuota : Nat := 32

/-- DESIGN CHOICE (log 12): the board of `State.reset` straps every strap to 0. POWER_ON and RESET_N_RELEASED carry any other strapping. -/
def Config.resetStraps : Straps := { cfg := 0, tick := 0, addr := 0 }

/-- FREE VALUE (log 2): at the draw numbered `k`, the place of one event among `n` others that come due at the same instant. The spec
lets either of two such events be taken first (R57, R58, R60, R80, R105 to R108, R119, R143, R144, R166) and gives no rule for it. -/
opaque Config.raceOrder : Nat → Nat → Nat

end Sys2Proof
end

