-- ==== Sys2Proof/Machine/State.lean ====
section
/-! DEFINITION. The state of the part as plain data, the reasons a step can stop, and the state after reset. -/

namespace Sys2Proof.Machine

/-- The reasons the part itself stops. There are none: the spec gives every command and event an effect, a refusal by result code, or
nothing, and no undefined behaviour (INVENTORY.md, Faults). So no meaning raises a fault. -/
inductive Fault where
  deriving DecidableEq, Repr

/-- The reasons the model has no meaning for a command. -/
inductive Refusal where
  /-- Raised only by an arm of `exec` that rejects its command by name, because the model gives it no meaning yet. Safe: nothing can be
  proved about such a command. No arm raises it now. -/
  | notModelled (mnemonic : String)
  deriving DecidableEq, Repr

/-- One value for each master. -/
structure PerMaster (α : Type) where
  a : α
  b : α
  c : α
  deriving DecidableEq, Repr

/-! ### Entries (chapters 2 and 3) -/

/-- The parameters of a train: the period P, the fraction F, the high time H, the count N, the rest level, the end-notice flag (R13, R88). -/
structure TrainRecord where
  period    : BitVec 16
  fraction  : BitVec 4
  highTime  : BitVec 16
  pulses    : BitVec 16
  rest      : Level
  endNotice : Bool
  deriving DecidableEq, Repr

/-- The actions of an entry (R13). -/
inductive Action where
  | driveLow
  | driveHigh
  | toggle
  | train (r : TrainRecord)
  | trainStop
  deriving DecidableEq, Repr

/-- The edges an armed entry waits for (R45). -/
inductive TriggerEdge where
  | rise
  | fall
  | either
  deriving DecidableEq, Repr

/-- The trigger part of an armed entry (R13, R44). -/
structure TriggerPart where
  input : Fin 8
  edge  : TriggerEdge
  delay : BitVec 24
  deriving DecidableEq, Repr

/-- The repeat part: the interval, and the executions still to come, 0 for endless (R13). -/
structure RepeatPart where
  interval  : BitVec 24
  remaining : BitVec 16
  deriving DecidableEq, Repr

/-- The guard part (R13, R32). -/
structure GuardPart where
  input : Fin 8
  level : Level
  deriving DecidableEq, Repr

/-- The fields an entry has whether it is TIMED or ARMED (R13). `runLate` is the late policy, true for RUN_LATE. -/
structure EntryCore where
  ticket     : Ticket
  poster     : Master
  line       : Fin 16
  action     : Action
  repeatPart : Option RepeatPart
  guardPart  : Option GuardPart
  runLate    : Bool
  notify     : Bool
  deriving DecidableEq, Repr

/-- A TIMED entry (R13): it waits for its due time. Its acceptance order is its place in the calendar (log 20). -/
structure TimedEntry where
  core : EntryCore
  due  : Word
  deriving DecidableEq, Repr

/-- An ARMED entry (R13, R44): it waits for its trigger, until its deadline if it has one. -/
structure ArmedEntry where
  core     : EntryCore
  trigger  : TriggerPart
  deadline : Option Word
  deriving DecidableEq, Repr

/-! ### Lines and generators (chapters 4 and 5) -/

/-- The mode of a line (R62, R66). -/
inductive Mode where
  | static
  | train
  deriving DecidableEq, Repr

/-- One line record (R62). The pin OUTn always shows `level`. The wait list stands oldest waiter first. -/
structure LineRecord where
  owner : Option Master
  mode  : Mode
  level : Level
  safe  : Level
  waits : List Master
  deriving DecidableEq, Repr

/-- The state of a generator (R88). -/
inductive GenState where
  | idle
  | running
  | stopping
  deriving DecidableEq, Repr

/-- A train record with its source ticket, as a generator's current or staged record holds it (R88). -/
structure TrainJob where
  record : TrainRecord
  source : Ticket
  deriving DecidableEq, Repr

/-- One generator (R88). -/
structure Generator where
  state        : GenState
  current      : TrainJob
  staged       : Option TrainJob
  accumulator  : BitVec 4
  remaining    : BitVec 16
  periodStart  : Word
  periodLength : Nat
  deriving DecidableEq, Repr

/-! ### Capture (chapter 6) -/

/-- The edge select of an input (R110). -/
inductive EdgeSelect where
  | none
  | rise
  | fall
  | both
  deriving DecidableEq, Repr

/-- The direction of an accepted edge (R115). -/
inductive Direction where
  | rise
  | fall
  deriving DecidableEq, Repr

/-- The filter of an input (R110): STABLE, or CANDIDATE with its candidate tick. `accepted` is the model's own mark that the test of
the present tick has passed and the step ACCEPTED_EDGE is outstanding (log 5). -/
inductive FilterState where
  | stable
  | candidate (since : Word) (accepted : Bool)
  deriving DecidableEq, Repr

/-- One input record (R110). -/
structure InputRecord where
  select       : EdgeSelect
  filterLength : Byte
  raw          : Level
  filtered     : Level
  filter       : FilterState
  sequence     : Byte
  deriving DecidableEq, Repr

/-- One capture record (R116). -/
structure CaptureRecord where
  input     : Fin 8
  edge      : Direction
  gap       : Bool
  sequence  : Byte
  timestamp : Word
  deriving DecidableEq, Repr

/-- The capture state of one master (R117). Bit i of `subscription` stands for input i; the capture count is the queue's length. -/
structure CaptureState where
  subscription : Byte
  watermark    : Nat
  queue        : List CaptureRecord
  lost         : Byte
  gapPending   : Bool
  deriving DecidableEq, Repr

/-! ### Sessions, notices, trip (chapters 7, 8 and 9) -/

/-- One session record (R129): the lease period and the lease deadline are present while ACTIVE only. -/
inductive Session where
  | closed
  | active (period deadline : Word)
  | lapsed
  deriving DecidableEq, Repr

/-- The thirteen notice kinds (R147). -/
inductive NoticeKind where
  | done
  | skipped
  | suppressed
  | dropped
  | lateRun
  | lateDiscarded
  | timeout
  | trainEnd
  | granted
  | lapsed
  | peerLapsed
  | tripped
  | tripCleared
  deriving DecidableEq, Repr

/-- A notice (R147): ticket 0 and no line where it concerns no entry and no line. -/
structure Notice where
  kind      : NoticeKind
  ticket    : Ticket
  line      : Option (Fin 16)
  detail    : Byte
  timestamp : Word
  deriving DecidableEq, Repr

/-- The notice queue of one master, oldest first, and its notice loss count (R149, R150). -/
structure NoticeQueue where
  queue : List Notice
  lost  : Byte
  deriving DecidableEq, Repr

/-- The trip state (R159). -/
inductive TripState where
  | normal
  | tripped
  deriving DecidableEq, Repr

/-- The trip record (R159). -/
structure TripRecord where
  state      : TripState
  count      : Byte
  timestamp  : Word
  lastSample : Level
  deriving DecidableEq, Repr

/-! ### Ports (chapter 10) -/

/-- The result codes (chapter 11, section 11.2). -/
inductive Result where
  | idle
  | ok
  | queued
  | already
  | badCrc
  | badLength
  | unknownCommand
  | range
  | form
  | noSession
  | lapsed
  | notConfig
  | notOwner
  | owned
  | notFound
  | notYours
  | full
  | quota
  | late
  | neverFires
  | tripActive
  deriving DecidableEq, Repr

/-- A response frame (R171); its length byte and its CRC are computed from these. -/
structure Response where
  status   : Result
  tag      : Byte
  code     : Byte
  notices  : Bool
  captures : Bool
  tripped  : Bool
  resent   : Bool
  payload  : List Byte
  deriving DecidableEq, Repr

/-- What a port fixed to send at the start of the frame or read in progress (R173, R178). `holds` says that these bytes are the
response the port still holds; an IDLE response, or a response a RESET_DEVICE has discarded since, is not (R171, R184). -/
structure Sending where
  bytes : List Byte
  holds : Bool
  deriving DecidableEq, Repr

/-- The state the three ports have alike (R169). `wire` is the model's own: the bytes last put out on SDO_x or SDA (log 8). -/
structure PortRecord where
  response      : Option Response
  sending       : Option Sending
  bytesReceived : Nat
  bytesSent     : Nat
  wire          : List Byte
  aborts        : Byte
  crcErrors     : Byte
  collisions    : Byte
  deriving DecidableEq, Repr

/-- The receive state of an SPI port (R169). -/
inductive SpiReceive where
  | idle
  | inFrame
  deriving DecidableEq, Repr

/-- An SPI port's receive state and the level of its pin SEL_x_N (R169, R173). -/
structure SpiBus where
  receive : SpiReceive
  select  : Level
  deriving DecidableEq, Repr

/-- The receive state of the I2C port (R169). -/
inductive I2cReceive where
  | idle
  | write
  | read
  | notAddressed
  deriving DecidableEq, Repr

/-- The input pins the part samples or obeys: IN0 to IN7 (bit i for INi, 1 for HIGH), TRIP_N and RESET_N. -/
structure Pins where
  inputs : BitVec 8
  tripN  : Level
  resetN : Level
  deriving DecidableEq, Repr

/-! ### The whole part -/

/-- The state of the part. The fields follow the nine blocks of 00_scope.md; the last four are the model's own. -/
structure State where
  /-- The count (R1). -/
  count : Word
  /-- The unit code of the tick unit (R2). -/
  tickUnit : BitVec 2
  /-- The configuring port designated by the straps (R185). -/
  configPort : Option Master
  /-- Port C's address (R185). -/
  i2cAddress : BitVec 7
  /-- The calendar: the TIMED entries in calendar order (R17). -/
  timed : List TimedEntry
  /-- The armed list: the ARMED entries in posting order (R49). -/
  armed : List ArmedEntry
  /-- The last ticket issued, 0 for none since the last reset (R15). -/
  lastTicket : Ticket
  /-- The quota of each master (R14). -/
  quotas : PerMaster Nat
  /-- The line table (R62). -/
  lines : Vector LineRecord 16
  /-- The train generators (R88). -/
  gens : Vector Generator 16
  /-- The input records (R110). -/
  inputs : Vector InputRecord 8
  /-- The capture state of each master (R117). -/
  captures : PerMaster CaptureState
  /-- The session table (R129). -/
  sessions : PerMaster Session
  /-- The notice queues (R149). -/
  notices : PerMaster NoticeQueue
  /-- The trip record (R159). -/
  trip : TripRecord
  /-- The ports (R169). -/
  ports : PerMaster PortRecord
  /-- SPI port A's bus state. -/
  spiA : SpiBus
  /-- SPI port B's bus state. -/
  spiB : SpiBus
  /-- Port C's receive state (R169). -/
  i2c : I2cReceive
  /-- Port C's stall timeout count (R169, R179). -/
  stallTimeouts : Byte
  /-- The levels of the input pins. -/
  pins : Pins
  /-- MODEL: the first sample since the reset has been taken (R127). -/
  sampled : Bool
  /-- MODEL: the inputs have not been sampled yet at the present tick (R111, log 4). -/
  inputSampleDue : Bool
  /-- MODEL: TRIP_N has not been sampled yet at the present tick (R159, log 4). -/
  tripSampleDue : Bool
  /-- MODEL: how many free orders have been drawn (log 2). -/
  draws : Nat
  /-- MODEL: the commands and events waiting, first in, first out. -/
  pending : List Instr
  deriving DecidableEq, Repr

/-- The same value for every master. -/
def PerMaster.all {α : Type} (x : α) : PerMaster α := { a := x, b := x, c := x }

/-- The train record of an IDLE generator, all 0 (R88, R89). -/
def TrainJob.zero : TrainJob :=
  { record := { period := 0, fraction := 0, highTime := 0, pulses := 0, rest := .low, endNotice := false }, source := 0 }

/-- An IDLE generator (R89, R109). An IDLE generator has no period start and length; they stand at 0 (log 22). -/
def Generator.idle : Generator :=
  { state := .idle, current := TrainJob.zero, staged := none, accumulator := 0, remaining := 0, periodStart := 0, periodLength := 0 }

/-- A line record after a reset (R86). -/
def LineRecord.initial : LineRecord :=
  { owner := none, mode := .static, level := .low, safe := .low, waits := [] }

/-- An input record after power-on or RESET_N (R127). The levels stand LOW until the first sample (log 10). -/
def InputRecord.initial : InputRecord :=
  { select := .none, filterLength := 0, raw := .low, filtered := .low, filter := .stable, sequence := 0 }

/-- A master's capture state after a reset or a purge (R126, R127). -/
def CaptureState.initial : CaptureState :=
  { subscription := 0, watermark := 1, queue := [], lost := 0, gapPending := false }

/-- An empty notice queue (R158). -/
def NoticeQueue.initial : NoticeQueue := { queue := [], lost := 0 }

/-- The trip record after power-on or RESET_N (R168). The last sample stands HIGH until the first sample (log 10). -/
def TripRecord.initial : TripRecord := { state := .normal, count := 0, timestamp := 0, lastSample := .high }

/-- A port after power-on or RESET_N (R186). -/
def PortRecord.initial : PortRecord :=
  { response := none, sending := none, bytesReceived := 0, bytesSent := 0, wire := [], aborts := 0, crcErrors := 0, collisions := 0 }

/-- The configuring port the CFG straps designate (R185). -/
def configPortOf (st : Straps) : Option Master :=
  match st.cfg with
  | 0#2 => none
  | 1#2 => some .a
  | 2#2 => some .b
  | _ => some .c

/-- Port C's address: 0x58 plus the value of the ADDR straps (R185). -/
def i2cAddressOf (st : Straps) : BitVec 7 := 0x58#7 + st.addr.setWidth 7

/-- Every block at its reset values with the straps sampled (R10, R43, R61, R86, R109, R127, R145, R158, R168, R186). The sample of the
first tick, the count 0, is due when RESET_N is HIGH (R10); while it is LOW no tick occurs. The pins' levels are the board's. -/
def State.afterReset (st : Straps) (pins : Pins) (selectA selectB : Level) (draws : Nat) (pending : List Instr) : State :=
  { count := 0
    tickUnit := st.tick
    configPort := configPortOf st
    i2cAddress := i2cAddressOf st
    timed := []
    armed := []
    lastTicket := 0
    quotas := PerMaster.all Config.resetQuota
    lines := Vector.replicate 16 LineRecord.initial
    gens := Vector.replicate 16 Generator.idle
    inputs := Vector.replicate 8 InputRecord.initial
    captures := PerMaster.all CaptureState.initial
    sessions := PerMaster.all .closed
    notices := PerMaster.all NoticeQueue.initial
    trip := TripRecord.initial
    ports := PerMaster.all PortRecord.initial
    spiA := { receive := .idle, select := selectA }
    spiB := { receive := .idle, select := selectB }
    i2c := .idle
    stallTimeouts := 0
    pins := pins
    sampled := false
    inputSampleDue := decide (pins.resetN = .high)
    tripSampleDue := decide (pins.resetN = .high)
    draws := draws
    pending := pending }

/-- DESIGN CHOICE (log 11): the pins of `State.reset`: the inputs LOW, TRIP_N and RESET_N HIGH. -/
def Pins.atReset : Pins := { inputs := 0, tripN := .high, resetN := .high }

/-- The part right after reset: at the release of RESET_N, at the first tick, the count 0, its samples still to be taken (R10). -/
def State.reset : State := State.afterReset Config.resetStraps Pins.atReset .high .high 0 []

end Sys2Proof.Machine
end

