-- ==== Sys2Proof/Machine/Operands.lean ====
section
/-! DEFINITION. The operand forms: bytes, levels and codes as the frames and records lay them out (chapter 11), and the POST payload. -/

namespace Sys2Proof.Machine

/-! ### Bytes, most significant first (chapter 11) -/

/-- Byte `i` of a payload; 0 past its end, where no rule reads. -/
def byteAt (p : List Byte) (i : Nat) : Byte := p.getD i 0

/-- A 16-bit field at byte `i`. -/
def u16At (p : List Byte) (i : Nat) : BitVec 16 := byteAt p i ++ byteAt p (i + 1)

/-- A 24-bit field at byte `i`. -/
def u24At (p : List Byte) (i : Nat) : BitVec 24 := byteAt p i ++ u16At p (i + 1)

/-- A 32-bit field at byte `i`. -/
def u32At (p : List Byte) (i : Nat) : BitVec 32 := u16At p i ++ u16At p (i + 2)

/-- The two bytes of a 16-bit field. -/
def bytes16 (x : BitVec 16) : List Byte := [x.extractLsb' 8 8, x.extractLsb' 0 8]

/-- The three bytes of a 24-bit field. -/
def bytes24 (x : BitVec 24) : List Byte := [x.extractLsb' 16 8, x.extractLsb' 8 8, x.extractLsb' 0 8]

/-- The four bytes of a 32-bit field. -/
def bytes32 (x : BitVec 32) : List Byte := [x.extractLsb' 24 8, x.extractLsb' 16 8, x.extractLsb' 8 8, x.extractLsb' 0 8]

/-- A count written in one byte. -/
def countByte (n : Nat) : Byte := BitVec.ofNat 8 n

/-- A count saturated at 255 (R6, R31, R35). -/
def satByte (n : Nat) : Byte := BitVec.ofNat 8 (min n 255)

/-- A counter of 0 to 255 that rises by one and stays at 255 once there (R118, R150, R160, R169). -/
def satInc (b : Byte) : Byte := if b = 255 then 255 else b + 1

/-! ### Codes (section 11.2) -/

/-- 0 LOW, 1 HIGH. -/
def levelCode : Level → Byte
  | .low => 0
  | .high => 1

/-- HIGH for 1, LOW for 0. -/
def levelOfBit (b : Bool) : Level := if b then .high else .low

/-- The opposite level. -/
def opposite : Level → Level
  | .low => .high
  | .high => .low

/-- 1 A, 2 B, 3 C. -/
def masterCode : Master → Byte
  | .a => 1
  | .b => 2
  | .c => 3

/-- 0 none, 1 A, 2 B, 3 C. -/
def ownerCode : Option Master → Byte
  | none => 0
  | some m => masterCode m

/-- The master a code names; 0 and the values above 3 name none. -/
def masterOfCode (b : Byte) : Option Master :=
  if b = 1 then some .a else if b = 2 then some .b else if b = 3 then some .c else none

/-- 0 DRIVE_LOW, 1 DRIVE_HIGH, 2 TOGGLE, 3 TRAIN, 4 TRAIN_STOP. -/
def actionCode : Action → Byte
  | .driveLow => 0
  | .driveHigh => 1
  | .toggle => 2
  | .train _ => 3
  | .trainStop => 4

/-- The edge code of a trigger part: 1 RISE, 2 FALL, 3 EITHER. -/
def triggerEdgeCode : TriggerEdge → Byte
  | .rise => 1
  | .fall => 2
  | .either => 3

/-- The edge select codes of SET_INPUT: 0 NONE, 1 RISE, 2 FALL, 3 BOTH (R121). -/
def edgeSelectCode : EdgeSelect → Byte
  | .none => 0
  | .rise => 1
  | .fall => 2
  | .both => 3

/-- The edge select a code of 0 to 3 names. -/
def edgeSelectOfCode (b : Byte) : EdgeSelect :=
  if b = 0 then .none else if b = 1 then .rise else if b = 2 then .fall else .both

/-- 0 CLOSED, 1 ACTIVE, 2 LAPSED. -/
def sessionCode : Session → Byte
  | .closed => 0
  | .active _ _ => 1
  | .lapsed => 2

/-- 0 NORMAL, 1 TRIPPED. -/
def tripCode : TripState → Byte
  | .normal => 0
  | .tripped => 1

/-- The result codes of section 11.2. -/
def resultCode : Result → Byte
  | .idle => 0x00
  | .ok => 0x01
  | .queued => 0x04
  | .already => 0x05
  | .badCrc => 0x10
  | .badLength => 0x11
  | .unknownCommand => 0x12
  | .range => 0x13
  | .form => 0x14
  | .noSession => 0x20
  | .lapsed => 0x21
  | .notConfig => 0x22
  | .notOwner => 0x30
  | .owned => 0x31
  | .notFound => 0x32
  | .notYours => 0x33
  | .full => 0x34
  | .quota => 0x35
  | .late => 0x36
  | .neverFires => 0x37
  | .tripActive => 0x38

/-- The notice kind codes of section 11.2. -/
def noticeKindCode : NoticeKind → Byte
  | .done => 0x01
  | .skipped => 0x02
  | .suppressed => 0x03
  | .dropped => 0x04
  | .lateRun => 0x05
  | .lateDiscarded => 0x06
  | .timeout => 0x07
  | .trainEnd => 0x08
  | .granted => 0x09
  | .lapsed => 0x0A
  | .peerLapsed => 0x0B
  | .tripped => 0x0C
  | .tripCleared => 0x0D

/-! ### Records (section 11.5, R189) -/

/-- The nine bytes of a notice record. -/
def Notice.bytes (n : Notice) : List Byte :=
  [noticeKindCode n.kind] ++ bytes16 n.ticket ++ [match n.line with | some l => countByte l.val | none => 0xFF] ++ [n.detail]
    ++ bytes32 n.timestamp

/-- The six bytes of a capture record. -/
def CaptureRecord.bytes (r : CaptureRecord) : List Byte :=
  [countByte r.input.val ||| (match r.edge with | .rise => 0x10 | .fall => 0x00) ||| (if r.gap then 0x80 else 0x00), r.sequence]
    ++ bytes32 r.timestamp

/-- The last byte of a train part: F in bits 3 to 0, the rest level in bit 4, the end-notice flag in bit 5 (section 11.3). -/
def trainByte (r : TrainRecord) : Byte :=
  r.fraction.setWidth 8 ||| (match r.rest with | .high => 0x10 | .low => 0x00) ||| (if r.endNotice then 0x20 else 0x00)

/-- The seven bytes of a train part (section 11.3). -/
def TrainRecord.bytes (r : TrainRecord) : List Byte :=
  bytes16 r.period ++ bytes16 r.highTime ++ bytes16 r.pulses ++ [trainByte r]

/-- The four bytes of a trigger part (section 11.3). -/
def TriggerPart.bytes (t : TriggerPart) : List Byte :=
  [countByte t.input.val ||| (triggerEdgeCode t.edge <<< 4)] ++ bytes24 t.delay

/-- The byte of a guard part: the input in bits 2 to 0, the required level in bit 7 (section 11.3). -/
def guardByte (g : GuardPart) : Byte :=
  countByte g.input.val ||| (match g.level with | .high => 0x80 | .low => 0x00)

/-! ### The POST payload (section 11.3, R19, R20, R188) -/

/-- IMMEDIATE, bit 0 of the flags byte. -/
def flagImmediate (f : Byte) : Bool := f.getLsbD 0

/-- NOTIFY, bit 1. -/
def flagNotify (f : Byte) : Bool := f.getLsbD 1

/-- RUN_LATE, bit 2. -/
def flagRunLate (f : Byte) : Bool := f.getLsbD 2

/-- REPEAT, bit 3. -/
def flagRepeat (f : Byte) : Bool := f.getLsbD 3

/-- GUARD, bit 4. -/
def flagGuard (f : Byte) : Bool := f.getLsbD 4

/-- TRIGGER, bit 5. -/
def flagTrigger (f : Byte) : Bool := f.getLsbD 5

/-- DEADLINE, bit 6. -/
def flagDeadline (f : Byte) : Bool := f.getLsbD 6

/-- The reserved flag, bit 7. -/
def flagReserved (f : Byte) : Bool := f.getLsbD 7

/-- The fields of a POST payload as they stand on the bus; a field of an absent part is 0, which has no reserved bit set. -/
structure PostFields where
  line        : Byte
  action      : Byte
  flags       : Byte
  due         : Word
  period      : BitVec 16
  highTime    : BitVec 16
  pulses      : BitVec 16
  trainByte   : Byte
  triggerByte : Byte
  delay       : BitVec 24
  deadline    : Word
  interval    : BitVec 24
  executions  : BitVec 16
  guardByte   : Byte
  deriving DecidableEq, Repr

/-- The bytes of the due time: present unless IMMEDIATE or TRIGGER is set (R20). -/
def dueSize (flags : Byte) : Nat := if flagImmediate flags || flagTrigger flags then 0 else 4

/-- The bytes of the train part: present when the action byte is 3 (R20). -/
def trainSize (action : Byte) : Nat := if action = 3 then 7 else 0

/-- The bytes of the trigger part (R20). -/
def triggerSize (flags : Byte) : Nat := if flagTrigger flags then 4 else 0

/-- The bytes of the deadline (R20). -/
def deadlineSize (flags : Byte) : Nat := if flagDeadline flags then 4 else 0

/-- The bytes of the repeat part (R20). -/
def repeatSize (flags : Byte) : Nat := if flagRepeat flags then 5 else 0

/-- The bytes of the guard part (R20). -/
def guardSize (flags : Byte) : Nat := if flagGuard flags then 1 else 0

/-- The expected payload length of check 1, from the flags and the action byte as they stand (R20). -/
def postLength (action flags : Byte) : Nat :=
  3 + dueSize flags + trainSize action + triggerSize flags + deadlineSize flags + repeatSize flags + guardSize flags

/-- The fields of a POST payload, each optional part directly after the one before it that is present (section 11.3, R188). -/
def postFields (p : List Byte) : PostFields :=
  let action := byteAt p 1
  let flags := byteAt p 2
  let train := 3 + dueSize flags
  let trigger := train + trainSize action
  let deadline := trigger + triggerSize flags
  let rep := deadline + deadlineSize flags
  let guard := rep + repeatSize flags
  { line := byteAt p 0
    action := action
    flags := flags
    due := if flagImmediate flags || flagTrigger flags then 0 else u32At p 3
    period := if action = 3 then u16At p train else 0
    highTime := if action = 3 then u16At p (train + 2) else 0
    pulses := if action = 3 then u16At p (train + 4) else 0
    trainByte := if action = 3 then byteAt p (train + 6) else 0
    triggerByte := if flagTrigger flags then byteAt p trigger else 0
    delay := if flagTrigger flags then u24At p (trigger + 1) else 0
    deadline := if flagDeadline flags then u32At p deadline else 0
    interval := if flagRepeat flags then u24At p rep else 0
    executions := if flagRepeat flags then u16At p (rep + 3) else 0
    guardByte := if flagGuard flags then byteAt p guard else 0 }

/-- A reserved bit of a part that is present is set (R188). -/
def PostFields.reservedSet (f : PostFields) : Bool :=
  flagReserved f.flags || (f.trainByte &&& 0xC0#8) != 0 || (f.triggerByte &&& 0xC8#8) != 0 || (f.guardByte &&& 0x78#8) != 0

/-- The edge code of the trigger byte, bits 5 and 4 (section 11.3). -/
def PostFields.edgeCode (f : PostFields) : Byte := (f.triggerByte >>> 4) &&& 3

/-- The train part of the POST (section 11.3). -/
def PostFields.train (f : PostFields) : TrainRecord :=
  { period := f.period, fraction := f.trainByte.setWidth 4, highTime := f.highTime, pulses := f.pulses
    rest := levelOfBit (f.trainByte.getLsbD 4), endNotice := f.trainByte.getLsbD 5 }

/-- The action of the POST; check 3 has refused an action byte above 4 (R22). -/
def PostFields.act (f : PostFields) : Action :=
  if f.action = 0 then .driveLow else if f.action = 1 then .driveHigh else if f.action = 2 then .toggle
  else if f.action = 3 then .train f.train else .trainStop

/-- An input number held in bits 2 to 0 of a byte (section 11.3). -/
def inputOfBits (b : Byte) : Fin 8 := (b.setWidth 3).toFin

/-- A line number held in a byte; the range checks have refused a byte above 15. -/
def lineOfByte (b : Byte) : Fin 16 := (b.setWidth 4).toFin

/-- The trigger part of the POST; check 3 has refused an edge code of 0 (R22). -/
def PostFields.trigger (f : PostFields) : TriggerPart :=
  { input := inputOfBits f.triggerByte
    edge := if f.edgeCode = 1 then .rise else if f.edgeCode = 2 then .fall else .either
    delay := f.delay }

/-- The fields an entry takes from its POST, with the ticket issued to it (R25). -/
def PostFields.core (f : PostFields) (ticket : Ticket) (poster : Master) : EntryCore :=
  { ticket := ticket
    poster := poster
    line := lineOfByte f.line
    action := f.act
    repeatPart := if flagRepeat f.flags then some { interval := f.interval, remaining := f.executions } else none
    guardPart := if flagGuard f.flags then some { input := inputOfBits f.guardByte, level := levelOfBit (f.guardByte.getLsbD 7) } else none
    runLate := flagRunLate f.flags
    notify := flagNotify f.flags }

end Sys2Proof.Machine
end

