-- ==== Sys2Proof/Machine/Flags.lean ====
section
/-! DEFINITION. The flags byte and the CRC of frames, and the bytes of a response (R171, R187). -/

namespace Sys2Proof.Machine

/-- One shift of the CRC-8 remainder: left by one bit, exclusive-or 0x07 when the bit shifted out was 1 (R187). -/
def crcShift (r : Byte) : Byte := if r.msb then (r <<< 1) ^^^ 0x07#8 else r <<< 1

/-- The remainder after one more byte: exclusive-or the byte, then eight shifts (R187). -/
def crcByte (r b : Byte) : Byte :=
  crcShift (crcShift (crcShift (crcShift (crcShift (crcShift (crcShift (crcShift (r ^^^ b))))))))

/-- The CRC-8 of a run of bytes, from the initial value 0x00 (R187). -/
def crc8 (bs : List Byte) : Byte := bs.foldl crcByte 0

/-- The flags byte of a response: NOTICES, CAPTURES, TRIPPED, RESENT in bits 0 to 3 (section 11.1). -/
def Response.flagsByte (r : Response) : Byte :=
  (if r.notices then 1 else 0) ||| (if r.captures then 2 else 0) ||| (if r.tripped then 4 else 0) ||| (if r.resent then 8 else 0)

/-- The bytes of a response before its CRC (R171). -/
def Response.body (r : Response) : List Byte :=
  [resultCode r.status, r.tag, r.code, r.flagsByte, countByte r.payload.length] ++ r.payload

/-- The bytes of a response frame, its CRC computed over the frame as it is sent, RESENT included (R171, R187). -/
def Response.bytes (r : Response) : List Byte := r.body ++ [crc8 r.body]

end Sys2Proof.Machine
end

