-- ==== Sys2Proof/Machine/Time.lean ====
section
/-! DEFINITION. Distance and the three classes of time, lateness, and the conversion of milliseconds to ticks (chapter 1). -/

namespace Sys2Proof.Machine

/-- The three classes of a time (R3). -/
inductive TimeClass where
  | now
  | ahead
  | behind
  deriving DecidableEq, Repr

/-- The distance of the time `t` from the count `c`: (T − C) modulo 2^32 (R3). -/
def distance (c t : Word) : Nat := (t - c).toNat

/-- The class of the time `t` at the count `c` (R3). -/
def classify (c t : Word) : TimeClass :=
  if distance c t = 0 then .now else if distance c t < 2147483648 then .ahead else .behind

/-- The lateness of the time `t` at the count `c`: (C − T) modulo 2^32 (R6). -/
def lateness (c t : Word) : Nat := (c - t).toNat

/-- The ticks in a millisecond for each unit code (R2). -/
def ticksPerMs (unit : BitVec 2) : Nat :=
  match unit with
  | 0#2 => 2000
  | 1#2 => 1000
  | 2#2 => 100
  | _ => 10

/-- A lease period in ticks, exact (R7). -/
def leaseTicks (unit : BitVec 2) (ms : BitVec 16) : Word := BitVec.ofNat 32 (ms.toNat * ticksPerMs unit)

end Sys2Proof.Machine
end

