-- ==== Sys2Proof/Machine/Ops.lean ====
section
/-! DEFINITION. The named operations over the state: records, notices, the pool and the calendar, generators and lines, the steps of an
execution, the return of a line and the purge of a master. -/

namespace Sys2Proof.Machine

/-! ### Records -/

/-- The value of master `m`. -/
def PerMaster.get {α : Type} (p : PerMaster α) : Master → α
  | .a => p.a
  | .b => p.b
  | .c => p.c

/-- `p` with the value of master `m` replaced. -/
def PerMaster.set {α : Type} (p : PerMaster α) (m : Master) (x : α) : PerMaster α :=
  match m with
  | .a => { p with a := x }
  | .b => { p with b := x }
  | .c => { p with c := x }

/-- All masters, in the order of their codes. -/
def masters : List Master := [.a, .b, .c]

/-- All lines in line order, line 0 first (R76). -/
def allLines : List (Fin 16) := [0, 1, 2, 3, 4, 5, 6, 7, 8, 9, 10, 11, 12, 13, 14, 15]

/-- All inputs. -/
def allInputs : List (Fin 8) := [0, 1, 2, 3, 4, 5, 6, 7]

/-- RESET_N is low: the count is held, no tick occurs and the ports take nothing (R10, R185). -/
def State.inReset (s : State) : Bool := decide (s.pins.resetN = .low)

/-- An event of the part takes place only while RESET_N is HIGH (R10, R185). -/
def State.unlessReset (s : State) (f : State → State) : State := if s.inReset then s else f s

/-- The line record of line `l` (R62). -/
def State.line (s : State) (l : Fin 16) : LineRecord := s.lines[l]

/-- The line record of line `l` replaced. -/
def State.setLine (s : State) (l : Fin 16) (r : LineRecord) : State := { s with lines := s.lines.set l.val r l.isLt }

/-- The generator of line `l` (R88). -/
def State.gen (s : State) (l : Fin 16) : Generator := s.gens[l]

/-- The generator of line `l` replaced. -/
def State.setGen (s : State) (l : Fin 16) (g : Generator) : State := { s with gens := s.gens.set l.val g l.isLt }

/-- The input record of input `i` (R110). -/
def State.input (s : State) (i : Fin 8) : InputRecord := s.inputs[i]

/-- The input record of input `i` replaced. -/
def State.setInput (s : State) (i : Fin 8) (r : InputRecord) : State := { s with inputs := s.inputs.set i.val r i.isLt }

/-- The session of master `m` (R129). -/
def State.session (s : State) (m : Master) : Session := s.sessions.get m

/-- The session of master `m` replaced. -/
def State.setSession (s : State) (m : Master) (x : Session) : State := { s with sessions := s.sessions.set m x }

/-- The notice queue of master `m` (R149). -/
def State.noticeQueue (s : State) (m : Master) : NoticeQueue := s.notices.get m

/-- The notice queue of master `m` replaced. -/
def State.setNotices (s : State) (m : Master) (q : NoticeQueue) : State := { s with notices := s.notices.set m q }

/-- The capture state of master `m` (R117). -/
def State.capture (s : State) (m : Master) : CaptureState := s.captures.get m

/-- The capture state of master `m` replaced. -/
def State.setCapture (s : State) (m : Master) (c : CaptureState) : State := { s with captures := s.captures.set m c }

/-- The port of master `m` (R169). -/
def State.port (s : State) (m : Master) : PortRecord := s.ports.get m

/-- The port of master `m` replaced. -/
def State.setPort (s : State) (m : Master) (p : PortRecord) : State := { s with ports := s.ports.set m p }

/-- The quota of master `m` (R14). -/
def State.quota (s : State) (m : Master) : Nat := s.quotas.get m

/-- The session is ACTIVE (R129). -/
def Session.isActive : Session → Bool
  | .closed => false
  | .active _ _ => true
  | .lapsed => false

/-- Master `m`'s session is ACTIVE. -/
def State.isActive (s : State) (m : Master) : Bool := (s.session m).isActive

/-! ### Notices (chapter 8) -/

/-- A notice joins a queue at its end, or is lost and counted when the queue holds sixteen (R149, R150). -/
def NoticeQueue.store (q : NoticeQueue) (n : Notice) : NoticeQueue :=
  if q.queue.length < Config.noticeCapacity then { q with queue := q.queue ++ [n] } else { q with lost := satInc q.lost }

/-- A notice addressed to master `m` is stored when its session is ACTIVE; otherwise it is not stored and not counted (R148, R150). -/
def State.notify (s : State) (m : Master) (n : Notice) : State :=
  if s.isActive m then s.setNotices m ((s.noticeQueue m).store n) else s

/-- A notice of the calendar about an entry: its ticket, its line, and the present count (R30, R53, R56, R147). -/
def entryNotice (s : State) (kind : NoticeKind) (e : EntryCore) (detail : Byte) : Notice :=
  { kind := kind, ticket := e.ticket, line := some e.line, detail := detail, timestamp := s.count }

/-- The attention line of master `m` is asserted (R155). -/
def State.attention (s : State) (m : Master) : Bool :=
  decide (s.session m ≠ .closed) &&
    (!(s.noticeQueue m).queue.isEmpty || decide ((s.capture m).watermark ≤ (s.capture m).queue.length))

/-! ### The pool, tickets and the calendar (chapter 2) -/

/-- The number of occupied slots (R12). -/
def State.poolUsed (s : State) : Nat := s.timed.length + s.armed.length

/-- The pool free count (R12). -/
def State.poolFree (s : State) : Nat := Config.poolSize - s.poolUsed

/-- The held count of master `m` (R14). -/
def State.held (s : State) (m : Master) : Nat :=
  (s.timed.filter fun e => e.core.poster = m).length + (s.armed.filter fun e => e.core.poster = m).length

/-- The number of pool entries for line `l`, of every poster (R83). -/
def State.entriesFor (s : State) (l : Fin 16) : Nat :=
  (s.timed.filter fun e => e.core.line = l).length + (s.armed.filter fun e => e.core.line = l).length

/-- The ticket is held by an entry in the pool (R15). -/
def State.ticketHeld (s : State) (t : Ticket) : Bool :=
  (s.timed.any fun e => e.core.ticket = t) || (s.armed.any fun e => e.core.ticket = t)

/-- The value after a ticket, 65535 followed by 1 (R15). -/
def ticketAfter (t : Ticket) : Ticket := if t = 65535 then 1 else t + 1

/-- The first of at most `fuel` + 1 successive values after `t` that no entry holds (R15). -/
def State.freeTicket (s : State) : Nat → Ticket → Ticket
  | 0, t => ticketAfter t
  | fuel + 1, t => if s.ticketHeld (ticketAfter t) then s.freeTicket fuel (ticketAfter t) else ticketAfter t

/-- The ticket the allocator issues next: it passes over as many values as the pool has entries, so it finds a free one (R15). -/
def State.nextTicket (s : State) : Ticket := s.freeTicket s.poolUsed s.lastTicket

/-- The place of an entry in the calendar: after every entry whose due time is not at a greater distance, before the others (R17). -/
def insertByDue (c : Word) (e : TimedEntry) : List TimedEntry → List TimedEntry
  | [] => [e]
  | x :: xs => if distance c e.due < distance c x.due then e :: x :: xs else x :: insertByDue c e xs

/-- An entry enters the calendar (R17). -/
def State.insertTimed (s : State) (e : TimedEntry) : State := { s with timed := insertByDue s.count e s.timed }

/-- The repeat part after one more execution, or none when no executions remain (R27, R35). -/
def RepeatPart.afterExecution (r : RepeatPart) : Option RepeatPart :=
  if r.remaining = 0 then some r else if r.remaining = 1 then none else some { r with remaining := r.remaining - 1 }

/-- The detail of DONE, SKIPPED and SUPPRESSED: the executions remaining after this one, saturated at 255, 255 for an endless entry, 0
without a repeat part (R34, R35). -/
def detailAfter : Option RepeatPart → Byte
  | none => 0
  | some r => if r.remaining = 0 then 255 else satByte (r.remaining.toNat - 1)

/-- The detail of DROPPED and TIMEOUT: the executions the entry still had, saturated at 255, 255 for an endless entry, 1 without a repeat
part (R31, R56). -/
def detailHad : Option RepeatPart → Byte
  | none => 1
  | some r => if r.remaining = 0 then 255 else satByte r.remaining.toNat

/-- The repeat step: a repeating entry with executions left enters the calendar with its due time at `base` plus the interval (R27, R35,
R52, R53). -/
def State.repeatFrom (s : State) (e : EntryCore) (base : Word) : State :=
  match e.repeatPart with
  | none => s
  | some r =>
    match r.afterExecution with
    | none => s
    | some r' => s.insertTimed { core := { e with repeatPart := some r' }, due := base + r.interval.setWidth 32 }

/-- Every entry of master `m` for line `l` leaves the pool (R38, R39). -/
def State.purgeLine (s : State) (m : Master) (l : Fin 16) : State :=
  { s with timed := s.timed.filter fun e => !(e.core.poster = m && e.core.line = l)
           armed := s.armed.filter fun e => !(e.core.poster = m && e.core.line = l) }

/-- Every entry of master `m` leaves the pool (R39). -/
def State.purgeEntries (s : State) (m : Master) : State :=
  { s with timed := s.timed.filter fun e => !(e.core.poster = m)
           armed := s.armed.filter fun e => !(e.core.poster = m) }

/-! ### Generators and lines (chapters 4 and 5) -/

/-- The addition of F carries, so the period is long (R91). -/
def Generator.carries (g : Generator) : Bool := decide (16 ≤ g.accumulator.toNat + g.current.record.fraction.toNat)

/-- A new period of the current record begins at the tick `t`: F is added to the accumulator and the length is set (R90, R91). -/
def Generator.newPeriod (g : Generator) (t : Word) : Generator :=
  { g with accumulator := g.accumulator + g.current.record.fraction
           periodStart := t
           periodLength := g.current.record.period.toNat + (if g.carries then 1 else 0) }

/-- The level of a period's first tick: HIGH for H above 0, LOW for H = 0 (R93, R95). -/
def firstLevel (r : TrainRecord) : Level := if r.highTime = 0 then .low else .high

/-- The generator begins a new period at the present count and drives its first level (R98, R99). -/
def State.beginPeriod (s : State) (l : Fin 16) (g : Generator) : State :=
  (s.setGen l (g.newPeriod s.count)).setLine l { s.line l with mode := .train, level := firstLevel g.current.record }

/-- A TRAIN action on an IDLE generator starts a train (R95). -/
def State.startTrain (s : State) (l : Fin 16) (j : TrainJob) : State :=
  s.beginPeriod l { Generator.idle with state := .running, current := j, remaining := j.record.pulses }

/-- A TRAIN action passed to the generator: started, staged, or staged with the stop cancelled (R95, R96, R97). -/
def State.trainAction (s : State) (l : Fin 16) (j : TrainJob) : State :=
  match (s.gen l).state with
  | .idle => s.startTrain l j
  | .running => s.setGen l { s.gen l with staged := some j }
  | .stopping => s.setGen l { s.gen l with state := .running, staged := some j }

/-- A TRAIN_STOP action passed to the generator (R102). -/
def State.trainStop (s : State) (l : Fin 16) : State :=
  match (s.gen l).state with
  | .running => s.setGen l { s.gen l with state := .stopping, staged := none }
  | .idle => s
  | .stopping => s

/-- The line is brought to rest at a level: any train is cut off with no TRAIN_END, the staged record is discarded, the mode becomes
STATIC (R74, R77, R78, R103, R160). -/
def State.rest (s : State) (l : Fin 16) (level : Level) : State :=
  (s.setGen l Generator.idle).setLine l { s.line l with mode := .static, level := level }

/-- An action applied to a line by the execution of the ticket given (R77, R78, R79). -/
def State.applyAction (s : State) (l : Fin 16) (a : Action) (ticket : Ticket) : State :=
  match a with
  | .driveLow => s.rest l .low
  | .driveHigh => s.rest l .high
  | .toggle => s.rest l (opposite (s.line l).level)
  | .train r => s.trainAction l { record := r, source := ticket }
  | .trainStop => s.trainStop l

/-! ### The steps of an execution (R26, R31 to R35, R52, R53) -/

/-- What became of an execution. -/
inductive Execution where
  | executed
  | skipped
  | suppressed
  deriving DecidableEq, Repr

/-- The guard allows the action: there is none, or the filtered level equals the required level (R26, R32). -/
def State.guardPasses (s : State) (g : Option GuardPart) : Bool :=
  match g with
  | none => true
  | some g => decide ((s.input g.input).filtered = g.level)

/-- What the guard step and the trip step decide (R26, R32, R33). -/
def State.decideExecution (s : State) (e : EntryCore) : Execution :=
  if s.guardPasses e.guardPart then (if s.trip.state = .tripped then .suppressed else .executed) else .skipped

/-- The guard, trip and action steps (R26, R32, R33, R34). -/
def State.runAction (s : State) (e : EntryCore) : State :=
  match s.decideExecution e with
  | .executed => s.applyAction e.line e.action e.ticket
  | .skipped => s
  | .suppressed => s

/-- The notice kind that reports an execution (R32, R33, R34). -/
def executionNotice : Execution → NoticeKind
  | .executed => .done
  | .skipped => .skipped
  | .suppressed => .suppressed

/-- The DONE, SKIPPED or SUPPRESSED notice, sent when the notify field is yes (R32 to R35). -/
def State.reportExecution (s : State) (e : EntryCore) (x : Execution) : State :=
  if e.notify then s.notify e.poster (entryNotice s (executionNotice x) e (detailAfter e.repeatPart)) else s

/-- The LATE_RUN notice of a late conversion under RUN_LATE (R53). -/
def State.reportLate (s : State) (e : EntryCore) : Option Word → State
  | none => s
  | some due => s.notify e.poster (entryNotice s .lateRun e (satByte (lateness s.count due)))

/-- The steps of dispatch for an entry that has left the calendar or the armed list (R31 to R35), at a conversion also (R52, R53). `late`
is the due time of a late conversion under RUN_LATE. -/
def State.executeEntry (s : State) (e : EntryCore) (late : Option Word) : State :=
  if (s.line e.line).owner = some e.poster then
    let s₁ := s.reportLate e late
    ((s₁.runAction e).reportExecution e (s₁.decideExecution e)).repeatFrom e s.count
  else s.notify e.poster (entryNotice s .dropped e (detailHad e.repeatPart))

/-! ### The return of a line and the purge of a master (R74 to R76, R126, R138) -/

/-- The cause of a return, the detail of GRANTED (R75). -/
inductive ReturnCause where
  | released
  | lapsed
  | closed
  deriving DecidableEq, Repr

/-- 1 RELEASED, 2 LAPSED, 3 CLOSED (R75). -/
def returnCauseCode : ReturnCause → Byte
  | .released => 1
  | .lapsed => 2
  | .closed => 3

/-- The GRANTED notice of a handoff (R75). -/
def grantedNotice (s : State) (l : Fin 16) (cause : ReturnCause) : Notice :=
  { kind := .granted, ticket := 0, line := some l, detail := returnCauseCode cause, timestamp := s.count }

/-- The return of a line: rest at the safe level, then the oldest waiter becomes owner and is told, or the line is unowned (R74, R75). -/
def State.returnLine (s : State) (l : Fin 16) (cause : ReturnCause) : State :=
  let s₁ := s.rest l (s.line l).safe
  match (s.line l).waits with
  | [] => s₁.setLine l { s₁.line l with owner := none }
  | m :: ms => (s₁.setLine l { s₁.line l with owner := some m, waits := ms }).notify m (grantedNotice s l cause)

/-- Master `m` leaves the wait list of line `l` (R73). -/
def State.withdrawWait (s : State) (m : Master) (l : Fin 16) : State :=
  s.setLine l { s.line l with waits := (s.line l).waits.filter fun w => !(w = m) }

/-- Master `m` leaves every wait list (R76, R138). -/
def State.withdrawWaits (s : State) (m : Master) : State := allLines.foldl (fun s l => s.withdrawWait m l) s

/-- Line `l` is returned if master `m` owns it. -/
def State.returnIfOwned (s : State) (m : Master) (cause : ReturnCause) (l : Fin 16) : State :=
  if (s.line l).owner = some m then s.returnLine l cause else s

/-- Every line master `m` owns is returned, in line order 0 to 15 (R76, R138). -/
def State.returnLines (s : State) (m : Master) (cause : ReturnCause) : State :=
  allLines.foldl (fun s l => s.returnIfOwned m cause l) s

/-- The number of lines master `m` owns. -/
def State.linesOwned (s : State) (m : Master) : Nat := (allLines.filter fun l => (s.line l).owner = some m).length

/-- The purge of master `m`: entries, waits, lines, capture state, in this order (R126, R138). -/
def State.purge (s : State) (m : Master) (cause : ReturnCause) : State :=
  (((s.purgeEntries m).withdrawWaits m).returnLines m cause).setCapture m CaptureState.initial

/-! ### The taking of a command (chapter 10) -/

/-- What the owning block answers: a result and a payload (R171). -/
structure Reply where
  status  : Result
  payload : List Byte
  deriving DecidableEq, Repr

/-- A refusal: no payload (R171). -/
def Reply.refuse (r : Result) : Reply := { status := r, payload := [] }

/-- The response frame built from the state as it stands, RESENT clear (R171). -/
def State.buildResponse (s : State) (m : Master) (tag code : Byte) (r : Reply) : Response :=
  { status := r.status
    tag := tag
    code := code
    notices := !(s.noticeQueue m).queue.isEmpty
    captures := !(s.capture m).queue.isEmpty
    tripped := decide (s.trip.state = .tripped)
    resent := false
    payload := r.payload }

/-- The response built becomes the port's pending response (R172). -/
def State.respond (s : State) (m : Master) (tag code : Byte) (r : Reply) : State :=
  s.setPort m { s.port m with response := some (s.buildResponse m tag code r) }

/-- The fixed payload length of a command; POST has none (R181). -/
def fixedLength : Command → Option Nat
  | .nop => some 0
  | .time => some 0
  | .status => some 0
  | .openSession => some 2
  | .renew => some 0
  | .close => some 0
  | .claim => some 2
  | .release => some 1
  | .queryLine => some 1
  | .post => none
  | .cancel => some 2
  | .cancelLine => some 1
  | .queryEntry => some 2
  | .subscribe => some 2
  | .readCaptures => some 1
  | .readInputs => some 0
  | .readNotices => some 1
  | .clearTrip => some 0
  | .setQuota => some 2
  | .setSafe => some 2
  | .setInput => some 3
  | .resetDevice => some 0

/-- The session a command needs (R139). -/
inductive SessionNeed where
  | any
  | notLapsed
  | active
  deriving DecidableEq, Repr

/-- The table of R139; CLEAR_TRIP follows R164: `designated` says that a configuring port is designated. -/
def sessionNeedOf (designated : Bool) : Command → SessionNeed
  | .nop => .any
  | .time => .any
  | .status => .any
  | .openSession => .any
  | .renew => .active
  | .close => .active
  | .claim => .active
  | .release => .active
  | .queryLine => .any
  | .post => .active
  | .cancel => .active
  | .cancelLine => .active
  | .queryEntry => .active
  | .subscribe => .active
  | .readCaptures => .active
  | .readInputs => .any
  | .readNotices => .any
  | .clearTrip => if designated then .notLapsed else .active
  | .setQuota => .notLapsed
  | .setSafe => .notLapsed
  | .setInput => .notLapsed
  | .resetDevice => .notLapsed

/-- The configuration commands: SET_QUOTA, SET_SAFE, SET_INPUT, RESET_DEVICE, and CLEAR_TRIP when a configuring port is designated (R181). -/
def isConfigCommand (designated : Bool) : Command → Bool
  | .clearTrip => designated
  | .setQuota => true
  | .setSafe => true
  | .setInput => true
  | .resetDevice => true
  | .nop => false
  | .time => false
  | .status => false
  | .openSession => false
  | .renew => false
  | .close => false
  | .claim => false
  | .release => false
  | .queryLine => false
  | .post => false
  | .cancel => false
  | .cancelLine => false
  | .queryEntry => false
  | .subscribe => false
  | .readCaptures => false
  | .readInputs => false
  | .readNotices => false

/-- The refusal a session state gives a need (R139). -/
def sessionRefusal (need : SessionNeed) (x : Session) : Option Result :=
  match need, x with
  | .any, _ => none
  | .notLapsed, .lapsed => some .lapsed
  | .notLapsed, _ => none
  | .active, .active _ _ => none
  | .active, .closed => some .noSession
  | .active, .lapsed => some .lapsed

/-- The refusals before the owning block, in their order: BAD_LENGTH, NOT_CONFIG, NO_SESSION or LAPSED (R181, R139, R164). -/
def State.commonRefusal (s : State) (m : Master) (c : Command) (length : Nat) : Option Result :=
  if (match fixedLength c with | some n => decide (length ≠ n) | none => false) then some .badLength
  else if isConfigCommand s.configPort.isSome c && decide (s.configPort ≠ some m) then some .notConfig
  else sessionRefusal (sessionNeedOf s.configPort.isSome c) (s.session m)

/-- What a command does at its owning block: the state after it, and its reply. -/
abbrev Meaning := Master → List Byte → State → State × Reply

/-- A command is taken at the port of master `m`: refused in common, or handed to its block; its response becomes pending (R172, R181). -/
def State.takeCommand (s : State) (m : Master) (tag : Byte) (c : Command) (payload : List Byte) (act : Meaning) : State :=
  match s.commonRefusal m c payload.length with
  | some r => s.respond m tag c.code (Reply.refuse r)
  | none => (act m payload s).1.respond m tag c.code (act m payload s).2

/-- A complete frame collides with the undelivered response `r`: the collision count rises and RESENT is set (R172). -/
def State.collide (s : State) (m : Master) (r : Response) : State :=
  s.setPort m { s.port m with response := some { r with resent := true }, collisions := satInc (s.port m).collisions }

/-- A complete frame with a good CRC at the port of master `m`: taken, or a collision (R172). -/
def State.command (s : State) (m : Master) (tag : Byte) (c : Command) (payload : List Byte) (act : Meaning) : State :=
  match (s.port m).response with
  | none => s.takeCommand m tag c payload act
  | some r => s.collide m r

end Sys2Proof.Machine
end

