-- ==== Sys2Proof/Machine/Calendar.lean ====
section
/-! DEFINITION. POST, CANCEL, CANCEL_LINE, QUERY_ENTRY, SET_QUOTA, DISPATCH and DEADLINE_REACHED (chapters 2 and 3). -/

namespace Sys2Proof.Machine

/-! ### The nine checks of POST (R20 to R24, R44, R46, R47, R188) -/

/-- A timed POST: neither IMMEDIATE nor armed (R24). -/
def PostFields.isTimed (f : PostFields) : Bool := !flagImmediate f.flags && !flagTrigger f.flags

/-- Check 2: IMMEDIATE with TRIGGER, DEADLINE without TRIGGER, or a reserved bit set (R21, R188). -/
def PostFields.badForm (f : PostFields) : Bool :=
  (flagImmediate f.flags && flagTrigger f.flags) || (flagDeadline f.flags && !flagTrigger f.flags) || f.reservedSet

/-- Check 3: a field out of its range (R22). -/
def PostFields.badRange (f : PostFields) : Bool :=
  decide (15#8 < f.line) || decide (4#8 < f.action) || (decide (f.action = 3) && decide (f.period < 2#16))
    || (flagRepeat f.flags && decide (f.interval = 0)) || (flagTrigger f.flags && decide (f.edgeCode = 0))

/-- The POST would leave an entry (R23). -/
def PostFields.leavesEntry (f : PostFields) (c : Word) : Bool :=
  flagTrigger f.flags || (f.isTimed && decide (classify c f.due = .ahead))
    || (flagRepeat f.flags && decide (f.executions ≠ 1))

/-- The edge select can give the requested edge (R47). -/
def selectGives : EdgeSelect → TriggerEdge → Bool
  | .none, _ => false
  | .rise, .rise => true
  | .rise, .fall => false
  | .rise, .either => true
  | .fall, .rise => false
  | .fall, .fall => true
  | .fall, .either => true
  | .both, _ => true

/-- The first check of POST that fails, of checks 2 to 9 (R21 to R24, R46, R47). -/
def State.postRefusal (s : State) (m : Master) (f : PostFields) : Option Result :=
  if f.badForm then some .form
  else if f.badRange then some .range
  else if (s.line (lineOfByte f.line)).owner ≠ some m then some .notOwner
  else if s.quota m ≤ s.held m then some .quota
  else if f.leavesEntry s.count && decide (Config.poolSize ≤ s.poolUsed) then some .full
  else if f.isTimed && decide (classify s.count f.due = .behind) && !flagRunLate f.flags then some .late
  else if flagDeadline f.flags && decide (classify s.count f.deadline ≠ .ahead) then some .late
  else if flagTrigger f.flags && !selectGives (s.input f.trigger.input).select f.trigger.edge then some .neverFires
  else none

/-! ### The paths of an accepted POST (R25 to R28, R44) -/

/-- The outcome of a POST (R25); its codes are in section 11.2. -/
inductive PostOutcome where
  | timed
  | armed
  | executed
  | executedLate
  | skipped
  | suppressed
  deriving DecidableEq, Repr

/-- 1 TIMED, 2 ARMED, 3 EXECUTED, 4 EXECUTED_LATE, 5 SKIPPED, 6 SUPPRESSED. -/
def postOutcomeCode : PostOutcome → Byte
  | .timed => 1
  | .armed => 2
  | .executed => 3
  | .executedLate => 4
  | .skipped => 5
  | .suppressed => 6

/-- The outcome of an execution at the taking (R26). -/
def takingOutcome (late : Bool) : Execution → PostOutcome
  | .executed => if late then .executedLate else .executed
  | .skipped => .skipped
  | .suppressed => .suppressed

/-- The path an accepted POST follows (R25). -/
inductive PostPath where
  | arm
  | insert
  | execute (late : Bool)
  deriving DecidableEq, Repr

/-- The path, by the flags and the class of the due time at the taking (R25). -/
def PostFields.path (f : PostFields) (c : Word) : PostPath :=
  if flagTrigger f.flags then .arm
  else if flagImmediate f.flags then .execute false
  else
    match classify c f.due with
    | .ahead => .insert
    | .now => .execute false
    | .behind => .execute true

/-- The retained flag of an execution at the taking (R27). -/
def retains (e : EntryCore) : Bool :=
  match e.repeatPart with
  | none => false
  | some r => r.afterExecution.isSome

/-- The deadline of an armed POST, when the DEADLINE flag is set (R44). -/
def PostFields.deadline? (f : PostFields) : Option Word := if flagDeadline f.flags then some f.deadline else none

/-- The entry joins the end of the armed list (R44, R49). -/
def State.arm (s : State) (e : ArmedEntry) : State := { s with armed := s.armed ++ [e] }

/-- The state after an accepted POST has acted with the entry `e` (R25, R26, R27, R44). An execution at the taking stores no notice. -/
def State.actPost (s : State) (f : PostFields) (e : EntryCore) : State :=
  match f.path s.count with
  | .arm => s.arm { core := e, trigger := f.trigger, deadline := f.deadline? }
  | .insert => s.insertTimed { core := e, due := f.due }
  | .execute _ => (s.runAction e).repeatFrom e s.count

/-- The outcome and the retained flag of an accepted POST, as one byte: the outcome in bits 6 to 0, retained in bit 7 (R28, section 11.4). -/
def State.postOutcomeByte (s : State) (f : PostFields) (e : EntryCore) : Byte :=
  match f.path s.count with
  | .arm => postOutcomeCode .armed
  | .insert => postOutcomeCode .timed
  | .execute late =>
    postOutcomeCode (takingOutcome late (s.decideExecution e)) ||| (if retains e then 0x80 else 0x00)

/-- An accepted POST: a ticket is issued, the path is followed, the response is built after it (R15, R25, R28). -/
def State.acceptPost (s : State) (m : Master) (f : PostFields) : State × Reply :=
  let t := s.nextTicket
  let e := f.core t m
  let s₁ := { s with lastTicket := t }
  let s₂ := s₁.actPost f e
  (s₂, { status := .ok, payload := bytes16 t ++ [s₁.postOutcomeByte f e, countByte s₂.poolFree, countByte (s₂.held m)] })

/-- Check 1 of POST: at least 3 bytes, and the expected length (R20). -/
def postLengthOk (p : List Byte) : Bool :=
  decide (3 ≤ p.length) && decide (p.length = postLength (byteAt p 1) (byteAt p 2))

/-- POST (R19 to R28, R44). -/
def post (m : Master) (p : List Byte) (s : State) : State × Reply :=
  if postLengthOk p then
    match s.postRefusal m (postFields p) with
    | some r => (s, Reply.refuse r)
    | none => s.acceptPost m (postFields p)
  else (s, Reply.refuse .badLength)

/-! ### Entries by ticket -/

/-- An entry of the pool, in either state. -/
inductive PoolEntry where
  | timed (e : TimedEntry)
  | armed (e : ArmedEntry)
  deriving DecidableEq, Repr

/-- The fields an entry has in either state. -/
def entryCore : PoolEntry → EntryCore
  | .timed e => e.core
  | .armed e => e.core

/-- 1 TIMED, 2 ARMED (section 11.2). -/
def entryStateCode : PoolEntry → Byte
  | .timed _ => 1
  | .armed _ => 2

/-- The entry of the pool that carries the ticket (R16, R36). -/
def State.findEntry (s : State) (t : Ticket) : Option PoolEntry :=
  match s.timed.find? fun e => e.core.ticket = t with
  | some e => some (.timed e)
  | none => (s.armed.find? fun e => e.core.ticket = t).map .armed

/-- The entry with the ticket leaves the pool (R36). -/
def State.removeTicket (s : State) (t : Ticket) : State :=
  { s with timed := s.timed.filter fun e => !(e.core.ticket = t), armed := s.armed.filter fun e => !(e.core.ticket = t) }

/-- CANCEL (R36). -/
def cancel (m : Master) (p : List Byte) (s : State) : State × Reply :=
  match s.findEntry (u16At p 0) with
  | none => (s, Reply.refuse .notFound)
  | some e =>
    if (entryCore e).poster = m then
      let t := s.removeTicket (u16At p 0)
      (t, { status := .ok, payload := [entryStateCode e, countByte t.poolFree, countByte (t.held m)] })
    else (s, Reply.refuse .notYours)

/-- CANCEL_LINE (R38). -/
def cancelLine (m : Master) (p : List Byte) (s : State) : State × Reply :=
  if 15#8 < byteAt p 0 then (s, Reply.refuse .range)
  else
    let t := s.purgeLine m (lineOfByte (byteAt p 0))
    (t, { status := .ok, payload := [countByte (s.poolUsed - t.poolUsed), countByte t.poolFree, countByte (t.held m)] })

/-- The flags byte of QUERY_ENTRY: NOTIFY, RUN_LATE, REPEAT, GUARD, TRIGGER, DEADLINE in bits 1 to 6 (R40, section 11.4). -/
def entryFlagsByte (e : PoolEntry) : Byte :=
  (if (entryCore e).notify then 0x02 else 0) ||| (if (entryCore e).runLate then 0x04 else 0)
    ||| (if (entryCore e).repeatPart.isSome then 0x08 else 0) ||| (if (entryCore e).guardPart.isSome then 0x10 else 0)
    ||| (match e with
        | .timed _ => 0
        | .armed a => 0x20 ||| (if a.deadline.isSome then 0x40 else 0))

/-- The time field of QUERY_ENTRY: the due time, the deadline, or 0 (R40). -/
def entryTime : PoolEntry → Word
  | .timed e => e.due
  | .armed e => e.deadline.getD 0

/-- The trigger field of QUERY_ENTRY, all 0 for a TIMED entry (R40). -/
def entryTriggerBytes : PoolEntry → List Byte
  | .timed _ => [0, 0, 0, 0]
  | .armed e => e.trigger.bytes

/-- The interval and the executions remaining of QUERY_ENTRY: 0 and 1 without a repeat part (R40). -/
def entryRepeatBytes (e : EntryCore) : List Byte :=
  match e.repeatPart with
  | none => bytes24 0 ++ bytes16 1
  | some r => bytes24 r.interval ++ bytes16 r.remaining

/-- The guard byte of QUERY_ENTRY, 0 without a guard part (section 11.4). -/
def entryGuardByte (e : EntryCore) : Byte :=
  match e.guardPart with
  | none => 0
  | some g => guardByte g

/-- The eighteen bytes of an entry's description (R40, section 11.4). -/
def entryDescription (e : PoolEntry) : List Byte :=
  [entryStateCode e, countByte (entryCore e).line.val, actionCode (entryCore e).action, entryFlagsByte e] ++ bytes32 (entryTime e)
    ++ entryTriggerBytes e ++ entryRepeatBytes (entryCore e) ++ [entryGuardByte (entryCore e)]

/-- QUERY_ENTRY (R40). -/
def queryEntry (m : Master) (p : List Byte) (s : State) : State × Reply :=
  match s.findEntry (u16At p 0) with
  | none => (s, Reply.refuse .notFound)
  | some e =>
    if (entryCore e).poster = m then (s, { status := .ok, payload := entryDescription e }) else (s, Reply.refuse .notYours)

/-- SET_QUOTA (R41). -/
def setQuota (_m : Master) (p : List Byte) (s : State) : State × Reply :=
  match masterOfCode (byteAt p 0) with
  | none => (s, Reply.refuse .range)
  | some x =>
    if byteAt p 1 = 0 || 64#8 < byteAt p 1 then (s, Reply.refuse .range)
    else
      ({ s with quotas := s.quotas.set x (byteAt p 1).toNat },
        { status := .ok, payload := [byteAt p 1, countByte (s.held x)] })

/-! ### DISPATCH and DEADLINE_REACHED -/

/-- The entries due at this tick, in calendar order (R30). -/
def State.dueEntries (s : State) : List TimedEntry := s.timed.filter fun e => e.due = s.count

/-- The dispatch of one tick: every due entry leaves its place and goes through all its steps before the next (R30 to R35). -/
def State.dispatch (s : State) : State :=
  s.dueEntries.foldl (fun s e => s.executeEntry e.core none) { s with timed := s.timed.filter fun e => !(e.due = s.count) }

/-- The armed entries whose deadlines are reached at this tick, in posting order (R56). -/
def State.expiredEntries (s : State) : List ArmedEntry := s.armed.filter fun e => e.deadline = some s.count

/-- The expiry of one tick: the entries leave the pool and their posters are told, in posting order (R56). -/
def State.expire (s : State) : State :=
  s.expiredEntries.foldl (fun s e => s.notify e.core.poster (entryNotice s .timeout e.core (detailHad e.core.repeatPart)))
    { s with armed := s.armed.filter fun e => !(e.deadline = some s.count) }

/-- DISPATCH (R30). -/
def execDispatch (s : State) : Host.Outcome State Fault Refusal := .next (s.unlessReset State.dispatch)

/-- DEADLINE_REACHED (R56). -/
def execDeadlineReached (s : State) : Host.Outcome State Fault Refusal := .next (s.unlessReset State.expire)

end Sys2Proof.Machine
end

