-- ==== Sys2Proof/Machine/Capture.lean ====
section
/-! DEFINITION. INPUT_SAMPLE, ACCEPTED_EDGE, SET_INPUT, SUBSCRIBE, READ_CAPTURES and READ_INPUTS (chapters 3 and 6). -/

namespace Sys2Proof.Machine

/-! ### Sampling and filtering (R111 to R114, R127) -/

/-- The test of a candidate at the count `c`: the held ticks reach the filter length in force (R113, R114). -/
def candidatePasses (c since : Word) (q : Byte) : Bool := decide (q.toNat ≤ distance since c)

/-- A sample handled by the filter (R112, R113). -/
def InputRecord.sample (r : InputRecord) (c : Word) (v : Level) : InputRecord :=
  if v = r.filtered then { r with raw := v, filter := .stable }
  else
    match r.filter with
    | .stable => { r with raw := v, filter := .candidate c (candidatePasses c c r.filterLength) }
    | .candidate since _ => { r with raw := v, filter := .candidate since (candidatePasses c since r.filterLength) }

/-- The first sample after power-on or RESET_N: both levels take the level sampled, no candidate begins (R127). -/
def InputRecord.firstSample (r : InputRecord) (v : Level) : InputRecord := { r with raw := v, filtered := v, filter := .stable }

/-- The level of the pin INi. -/
def pinLevel (pins : BitVec 8) (i : Fin 8) : Level := levelOfBit (pins.getLsbD i.val)

/-- One input is sampled (R111, R127). -/
def State.sampleInput (s : State) (i : Fin 8) : State :=
  if s.sampled then s.setInput i ((s.input i).sample s.count (pinLevel s.pins.inputs i))
  else s.setInput i ((s.input i).firstSample (pinLevel s.pins.inputs i))

/-- Every input is sampled at this tick (R111). -/
def State.sampleInputs (s : State) : State :=
  { allInputs.foldl (fun s i => s.sampleInput i) s with sampled := true, inputSampleDue := false }

/-- The sample of this tick is taken if it is still due (log 4). -/
def State.takeInputSample (s : State) : State := if s.inputSampleDue then s.sampleInputs else s

/-- The pins take new levels. -/
def State.setInputPins (s : State) (v : BitVec 8) : State := { s with pins := { s.pins with inputs := v } }

/-! ### Accepted edges (R115 to R120) -/

/-- The direction of an edge to a level (R115). -/
def edgeTo : Level → Direction
  | .high => .rise
  | .low => .fall

/-- The edge select includes the direction (R115). -/
def selectIncludes : EdgeSelect → Direction → Bool
  | .none, _ => false
  | .rise, .rise => true
  | .rise, .fall => false
  | .fall, .rise => false
  | .fall, .fall => true
  | .both, _ => true

/-- The trigger's edge field matches the direction (R45). -/
def edgeMatches : TriggerEdge → Direction → Bool
  | .rise, .rise => true
  | .rise, .fall => false
  | .fall, .rise => false
  | .fall, .fall => true
  | .either, _ => true

/-- A record is delivered to a capture queue, or lost and counted when the queue holds sixteen (R118). -/
def CaptureState.deliver (k : CaptureState) (r : CaptureRecord) : CaptureState :=
  if k.queue.length < Config.captureCapacity then { k with queue := k.queue ++ [{ r with gap := k.gapPending }], gapPending := false }
  else { k with lost := satInc k.lost, gapPending := true }

/-- Delivery to master `m`, if its session is ACTIVE and it subscribes to the input (R115, R118). -/
def State.deliverTo (s : State) (r : CaptureRecord) (m : Master) : State :=
  if s.isActive m && (s.capture m).subscription.getLsbD r.input.val then s.setCapture m ((s.capture m).deliver r) else s

/-- Delivery to every subscriber; the deliveries touch different queues (R118). -/
def State.deliver (s : State) (r : CaptureRecord) : State := masters.foldl (fun s m => s.deliverTo r m) s

/-- An entry converts on an edge of timestamp `e` (R50 to R54). -/
def State.convert (s : State) (a : ArmedEntry) (e : Word) : State :=
  let due := e + a.trigger.delay.setWidth 32
  match classify s.count due with
  | .ahead => s.insertTimed { core := a.core, due := due }
  | .now => s.executeEntry a.core none
  | .behind =>
    if a.core.runLate then s.executeEntry a.core (some due)
    else s.notify a.core.poster (entryNotice s .lateDiscarded a.core (satByte (lateness s.count due)))

/-- The edge converts the armed entry (R45, R50). -/
def ArmedEntry.takes (a : ArmedEntry) (i : Fin 8) (d : Direction) : Bool :=
  decide (a.trigger.input = i) && edgeMatches a.trigger.edge d

/-- The offer of an edge to the armed list: every matching entry converts, in posting order (R50). -/
def State.offer (s : State) (i : Fin 8) (d : Direction) (e : Word) : State :=
  (s.armed.filter fun a => a.takes i d).foldl (fun s a => s.convert a e)
    { s with armed := s.armed.filter fun a => !a.takes i d }

/-- The recorded part of an accepted edge: the sequence rises, the record is delivered, the edge is offered (R115, R116, R120). -/
def State.recordEdge (s : State) (i : Fin 8) (d : Direction) (e : Word) : State :=
  let s₁ := s.setInput i { s.input i with sequence := (s.input i).sequence + 1 }
  (s₁.deliver { input := i, edge := d, gap := false, sequence := (s₁.input i).sequence, timestamp := e }).offer i d e

/-- The accepted edge of input `i` with the candidate tick `since` (R115). -/
def State.acceptEdge (s : State) (i : Fin 8) (since : Word) : State :=
  let v := opposite (s.input i).filtered
  let s₁ := s.setInput i { s.input i with filtered := v, filter := .stable }
  if selectIncludes (s.input i).select (edgeTo v) then s₁.recordEdge i (edgeTo v) since else s₁

/-- An accepted edge of input `i` is outstanding: its test has passed at this tick (R113). -/
def State.edgeDue (s : State) (i : Fin 8) : Bool :=
  match (s.input i).filter with
  | .candidate _ true => true
  | .candidate _ false => false
  | .stable => false

/-- ACCEPTED_EDGE of input `i`; with none outstanding, nothing (log 3). -/
def State.takeEdge (s : State) (i : Fin 8) : State :=
  match (s.input i).filter with
  | .candidate since true => s.acceptEdge i since
  | .candidate _ false => s
  | .stable => s

/-! ### Commands of the capture unit (R121 to R124) -/

/-- SET_INPUT (R121). -/
def setInput (_m : Master) (p : List Byte) (s : State) : State × Reply :=
  if 7#8 < byteAt p 0 || 3#8 < byteAt p 1 then (s, Reply.refuse .range)
  else
    let i := inputOfBits (byteAt p 0)
    let t := s.setInput i { s.input i with select := edgeSelectOfCode (byteAt p 1), filterLength := byteAt p 2 }
    (t, { status := .ok, payload := [byteAt p 0, byteAt p 1, byteAt p 2, levelCode (s.input i).filtered] })

/-- SUBSCRIBE (R122). -/
def subscribe (m : Master) (p : List Byte) (s : State) : State × Reply :=
  if byteAt p 1 = 0 || 16#8 < byteAt p 1 then (s, Reply.refuse .range)
  else
    (s.setCapture m { s.capture m with subscription := byteAt p 0, watermark := (byteAt p 1).toNat },
      { status := .ok, payload := [byteAt p 0, byteAt p 1, countByte (s.capture m).queue.length] })

/-- READ_CAPTURES (R123). -/
def readCaptures (m : Master) (p : List Byte) (s : State) : State × Reply :=
  if byteAt p 0 = 0 || 5#8 < byteAt p 0 then (s, Reply.refuse .range)
  else
    let k := s.capture m
    let n := (byteAt p 0).toNat
    (s.setCapture m { k with queue := k.queue.drop n, lost := 0 },
      { status := .ok
        payload := [countByte (k.queue.drop n).length, k.lost] ++ ((k.queue.take n).map CaptureRecord.bytes).flatten })

/-- A mask with bit i set where input i's level is HIGH (R124). -/
def State.levelMask (s : State) (f : InputRecord → Level) : Byte :=
  allInputs.foldl (fun b i => if f (s.input i) = .high then b ||| (1#8 <<< i.val) else b) 0

/-- READ_INPUTS (R124). -/
def readInputs (_m : Master) (_p : List Byte) (s : State) : State × Reply :=
  (s, { status := .ok, payload := [s.levelMask InputRecord.raw, s.levelMask InputRecord.filtered] })

/-- INPUT_SAMPLE: the pins stand at the levels given and the sample of this tick is taken (R111). -/
def execInputSample (levels : BitVec 8) (s : State) : Host.Outcome State Fault Refusal :=
  .next ((s.setInputPins levels).unlessReset State.takeInputSample)

/-- ACCEPTED_EDGE (R115). -/
def execAcceptedEdge (i : Fin 8) (s : State) : Host.Outcome State Fault Refusal := .next (s.unlessReset fun s => s.takeEdge i)

end Sys2Proof.Machine
end

