-- ==== Sys2Proof/Machine/Sessions.lean ====
section
/-! DEFINITION. NOP, TIME, STATUS, OPEN, RENEW, CLOSE and LAPSE (chapters 1, 7 and 10). -/

namespace Sys2Proof.Machine

/-- NOP (R182). -/
def nop (_m : Master) (_p : List Byte) (s : State) : State × Reply := (s, { status := .ok, payload := [] })

/-- TIME (R9). -/
def time (_m : Master) (_p : List Byte) (s : State) : State × Reply :=
  (s, { status := .ok, payload := bytes32 s.count ++ [s.tickUnit.setWidth 8] })

/-- The lease ticks remaining: the distance of the deadline while ACTIVE, else 0 (R7, R141). -/
def leaseRemaining (c : Word) : Session → Word
  | .active _ deadline => deadline - c
  | .closed => 0
  | .lapsed => 0

/-- The stall timeout count a STATUS reports: port C's own; 0 on ports A and B (R141). -/
def State.stallReported (s : State) : Master → Byte
  | .c => s.stallTimeouts
  | .a => 0
  | .b => 0

/-- The twenty-four bytes of STATUS (R141, section 11.4). -/
def State.statusPayload (s : State) (m : Master) : List Byte :=
  [sessionCode (s.session m)] ++ bytes32 (leaseRemaining s.count (s.session m))
    ++ [countByte (s.quota m), countByte (s.held m), countByte s.poolFree, countByte (s.noticeQueue m).queue.length, (s.noticeQueue m).lost,
        countByte (s.capture m).queue.length, (s.capture m).lost, tripCode s.trip.state, s.trip.count]
    ++ bytes32 s.trip.timestamp
    ++ [(s.port m).aborts, (s.port m).crcErrors, (s.port m).collisions, s.stallReported m, ownerCode s.configPort,
        s.tickUnit.setWidth 8]

/-- STATUS (R141). -/
def status (m : Master) (_p : List Byte) (s : State) : State × Reply := (s, { status := .ok, payload := s.statusPayload m })

/-- The session becomes ACTIVE, or is renewed, with a period in ticks (R130, R131). -/
def State.startLease (s : State) (m : Master) (period : Word) : State := s.setSession m (.active period (s.count + period))

/-- The payload of an OPEN response: previous state, period, deadline (R132). -/
def openPayload (previous : Session) (c period : Word) : List Byte :=
  [sessionCode previous] ++ bytes32 period ++ bytes32 (c + period)

/-- OPEN with a period of `period` ticks, by the table of R131. -/
def State.openLease (s : State) (m : Master) (period : Word) : State × Reply :=
  match s.session m with
  | .closed => (s.startLease m period, { status := .ok, payload := openPayload (s.session m) s.count period })
  | .active _ _ => (s.startLease m period, { status := .already, payload := openPayload (s.session m) s.count period })
  | .lapsed =>
    ((s.setNotices m NoticeQueue.initial).startLease m period, { status := .ok, payload := openPayload (s.session m) s.count period })

/-- OPEN with its range check (R131). -/
def openSession (m : Master) (p : List Byte) (s : State) : State × Reply :=
  if u16At p 0 < 10#16 || 60000#16 < u16At p 0 then (s, Reply.refuse .range)
  else s.openLease m (leaseTicks s.tickUnit (u16At p 0))

/-- RENEW (R133). The port serves it in ACTIVE only (R139). -/
def renew (m : Master) (_p : List Byte) (s : State) : State × Reply :=
  match s.session m with
  | .active period _ => (s.startLease m period, { status := .ok, payload := bytes32 period ++ bytes32 (s.count + period) })
  | .closed => (s, Reply.refuse .noSession)
  | .lapsed => (s, Reply.refuse .lapsed)

/-- CLOSE: the purge, the notice queue emptied, the session CLOSED (R134, R135). -/
def close (m : Master) (_p : List Byte) (s : State) : State × Reply :=
  (((s.purge m .closed).setNotices m NoticeQueue.initial).setSession m .closed,
    { status := .ok, payload := [countByte (s.held m), countByte (s.linesOwned m)] })

/-! ### The lapse (R136, R137) -/

/-- The LAPSED notice: its detail is the number of lines the purge returned (R137). -/
def lapsedNotice (s : State) (lines : Nat) : Notice :=
  { kind := .lapsed, ticket := 0, line := none, detail := countByte lines, timestamp := s.count }

/-- The PEER_LAPSED notice naming master `m` (R137). -/
def peerLapsedNotice (s : State) (m : Master) : Notice :=
  { kind := .peerLapsed, ticket := 0, line := none, detail := masterCode m, timestamp := s.count }

/-- PEER_LAPSED goes to every other ACTIVE master (R136). -/
def State.tellPeers (s : State) (m : Master) : State :=
  (masters.filter fun x => !(x = m)).foldl (fun s x => s.notify x (peerLapsedNotice s m)) s

/-- The lapse of master `m`, step by step (R136). -/
def State.lapseNow (s : State) (m : Master) : State :=
  let s₁ := (s.purge m .lapsed).setNotices m NoticeQueue.initial
  ((s₁.notify m (lapsedNotice s (s.linesOwned m))).tellPeers m).setSession m .lapsed

/-- The lease deadline of master `m` is reached: its session is ACTIVE and its deadline equals the count (R136). -/
def State.lapseDue (s : State) (m : Master) : Bool :=
  match s.session m with
  | .active _ deadline => decide (deadline = s.count)
  | .closed => false
  | .lapsed => false

/-- LAPSE of master `m`; with no deadline reached, nothing (log 3). -/
def State.lapse (s : State) (m : Master) : State := if s.lapseDue m then s.lapseNow m else s

/-- LAPSE (R136). -/
def execLapse (m : Master) (s : State) : Host.Outcome State Fault Refusal := .next (s.unlessReset fun s => s.lapse m)

end Sys2Proof.Machine
end

