-- ==== Sys2Proof/Machine/Trains.lean ====
section
/-! DEFINITION. PERIOD_END and HIGH_PART_END (chapter 5). -/

namespace Sys2Proof.Machine

/-- The period end of line `l` comes due: the count has reached the period start plus the period length (R98). -/
def State.periodEndDue (s : State) (l : Fin 16) : Bool :=
  decide ((s.gen l).state ≠ .idle) && decide ((s.gen l).periodStart + BitVec.ofNat 32 (s.gen l).periodLength = s.count)

/-- The high part of line `l` ends at this tick and has not ended yet: 0 < H < L and the count has reached S + H (R90, R93). -/
def State.highPartEndDue (s : State) (l : Fin 16) : Bool :=
  decide ((s.gen l).state ≠ .idle) && decide ((s.gen l).current.record.highTime ≠ 0)
    && decide ((s.gen l).current.record.highTime.toNat < (s.gen l).periodLength)
    && decide ((s.gen l).periodStart + (s.gen l).current.record.highTime.setWidth 32 = s.count)
    && decide ((s.line l).level = .high)

/-- The cause of the end of a train, the detail of TRAIN_END (R101). -/
inductive TrainEndCause where
  | count
  | stopped
  deriving DecidableEq, Repr

/-- 1 COUNT, 2 STOPPED (R101). -/
def trainEndCauseCode : TrainEndCause → Byte
  | .count => 1
  | .stopped => 2

/-- The TRAIN_END notice of line `l` (R101). -/
def trainEndNotice (s : State) (l : Fin 16) (cause : TrainEndCause) : Notice :=
  { kind := .trainEnd, ticket := (s.gen l).current.source, line := some l, detail := trainEndCauseCode cause, timestamp := s.count }

/-- A notice addressed to the owner of a line, if it has one (R101). -/
def State.notifyOwner (s : State) (l : Fin 16) (n : Notice) : State :=
  match (s.line l).owner with
  | none => s
  | some m => s.notify m n

/-- The end of a train: the rest level, STATIC, IDLE, and TRAIN_END to the owner when the end-notice flag was set (R100, R101). -/
def State.endTrain (s : State) (l : Fin 16) (cause : TrainEndCause) : State :=
  let r := (s.gen l).current.record
  if r.endNotice then (s.rest l r.rest).notifyOwner l (trainEndNotice s l cause) else s.rest l r.rest

/-- A staged record loads and its first period begins (R99). -/
def State.loadStaged (s : State) (l : Fin 16) (j : TrainJob) : State :=
  s.beginPeriod l { s.gen l with current := j, staged := none, remaining := j.record.pulses }

/-- What a RUNNING generator does at a period end (R98, R99, R100). -/
def State.runningPeriodEnd (s : State) (l : Fin 16) : State :=
  match (s.gen l).staged with
  | some j => s.loadStaged l j
  | none =>
    if (s.gen l).remaining = 0 then s.beginPeriod l (s.gen l)
    else if (s.gen l).remaining = 1 then s.endTrain l .count
    else s.beginPeriod l { s.gen l with remaining := (s.gen l).remaining - 1 }

/-- The period end of line `l` (R98); with none due, nothing (log 3). -/
def State.periodEnd (s : State) (l : Fin 16) : State :=
  if s.periodEndDue l then
    match (s.gen l).state with
    | .stopping => s.endTrain l .stopped
    | .running => s.runningPeriodEnd l
    | .idle => s
  else s

/-- The high part end of line `l`: the level becomes LOW and nothing else changes (R90); with none due, nothing (log 3). -/
def State.highPartEnd (s : State) (l : Fin 16) : State :=
  if s.highPartEndDue l then s.setLine l { s.line l with level := .low } else s

/-- PERIOD_END (R98). -/
def execPeriodEnd (l : Fin 16) (s : State) : Host.Outcome State Fault Refusal := .next (s.unlessReset fun s => s.periodEnd l)

/-- HIGH_PART_END (R90). -/
def execHighPartEnd (l : Fin 16) (s : State) : Host.Outcome State Fault Refusal := .next (s.unlessReset fun s => s.highPartEnd l)

end Sys2Proof.Machine
end

