-- ==== Sys2Proof/Machine/Trip.lean ====
section
/-! DEFINITION. TRIP, RE_ASSERTION, RISE_OF_TRIP_N and CLEAR_TRIP (chapter 9). -/

namespace Sys2Proof.Machine

/-- A notice addressed to every master; those not ACTIVE do not get it (R148, R160, R165). -/
def State.notifyAll (s : State) (n : Notice) : State := masters.foldl (fun s m => s.notify m n) s

/-- Every line is brought to rest at its safe level (R160 step 2). -/
def State.restAll (s : State) : State := allLines.foldl (fun s l => s.rest l (s.line l).safe) s

/-- The TRIPPED notice: its detail is the trip count after its increase (R160 step 3). -/
def trippedNotice (s : State) : Notice :=
  { kind := .tripped, ticket := 0, line := none, detail := s.trip.count, timestamp := s.count }

/-- The trip record becomes TRIPPED at this tick (R160 step 1). -/
def State.markTripped (s : State) : State :=
  { s with trip := { state := .tripped, count := satInc s.trip.count, timestamp := s.count, lastSample := .low } }

/-- The trip (R160). -/
def State.tripNow (s : State) : State := (s.markTripped.restAll).notifyAll (trippedNotice s.markTripped)

/-- A sample of TRIP_N while TRIPPED: a fall is counted, nothing else changes (R162). -/
def State.sampleTripped (s : State) (v : Level) : State :=
  { s with trip := { s.trip with count := if s.trip.lastSample = .high ∧ v = .low then satInc s.trip.count else s.trip.count
                                 lastSample := v } }

/-- A sample of TRIP_N handled by the trip input (R159, R160, R162). -/
def State.sampleTrip (s : State) : State :=
  match s.trip.state, s.pins.tripN with
  | .normal, .low => s.tripNow
  | .normal, .high => { s with trip := { s.trip with lastSample := .high } }
  | .tripped, v => s.sampleTripped v

/-- The sample of this tick is taken if it is still due (log 4). -/
def State.takeTripSample (s : State) : State :=
  if s.tripSampleDue then ({ s with tripSampleDue := false } : State).sampleTrip else s

/-- The pin TRIP_N takes a level. -/
def State.setTripPin (s : State) (v : Level) : State := { s with pins := { s.pins with tripN := v } }

/-- The TRIP_CLEARED notice naming the master whose CLEAR_TRIP was taken (R165). -/
def tripClearedNotice (s : State) (m : Master) : Notice :=
  { kind := .tripCleared, ticket := 0, line := none, detail := masterCode m, timestamp := s.count }

/-- The payload of a CLEAR_TRIP response (R164). -/
def State.tripPayload (s : State) : List Byte := [tripCode s.trip.state, s.trip.count] ++ bytes32 s.trip.timestamp

/-- The trip state returns to NORMAL and every ACTIVE master is told (R164, R165). -/
def State.clearNow (s : State) (m : Master) : State :=
  ({ s with trip := { s.trip with state := .normal } } : State).notifyAll (tripClearedNotice s m)

/-- CLEAR_TRIP at the trip input, by the table of R164. -/
def clearTrip (m : Master) (_p : List Byte) (s : State) : State × Reply :=
  match s.trip.state, s.trip.lastSample with
  | .normal, _ => (s, { status := .already, payload := s.tripPayload })
  | .tripped, .low => (s, Reply.refuse .tripActive)
  | .tripped, .high => (s.clearNow m, { status := .ok, payload := (s.clearNow m).tripPayload })

/-- TRIP: TRIP_N stands LOW and the sample of this tick is taken; in NORMAL it trips the part (R160). -/
def execTrip (s : State) : Host.Outcome State Fault Refusal := .next ((s.setTripPin .low).unlessReset State.takeTripSample)

/-- RE_ASSERTION: TRIP_N stands LOW and the sample of this tick is taken; after a HIGH sample while TRIPPED it is counted (R162). -/
def execReAssertion (s : State) : Host.Outcome State Fault Refusal :=
  .next ((s.setTripPin .low).unlessReset State.takeTripSample)

/-- RISE_OF_TRIP_N: TRIP_N stands HIGH and the sample of this tick is taken; the trip state stays as it is (R162). -/
def execRiseOfTripN (s : State) : Host.Outcome State Fault Refusal :=
  .next ((s.setTripPin .high).unlessReset State.takeTripSample)

end Sys2Proof.Machine
end

