-- ==== Sys2Proof/Machine/Clock.lean ====
section
/-! DEFINITION. TICK, and the taking of the events that came due at the present tick and that the queue did not place (R1, R4, R30; log 1, log 2). -/

namespace Sys2Proof.Machine

/-- An event that is due at the present tick. -/
inductive TickEvent where
  | dispatch
  | deadlines
  | lapse (m : Master)
  | periodEnd (l : Fin 16)
  | highPartEnd (l : Fin 16)
  | edge (i : Fin 8)
  | trip
  deriving DecidableEq, Repr

/-- The event is taken. -/
def State.takeEvent (s : State) : TickEvent → State
  | .dispatch => s.dispatch
  | .deadlines => s.expire
  | .lapse m => s.lapse m
  | .periodEnd l => s.periodEnd l
  | .highPartEnd l => s.highPartEnd l
  | .edge i => s.takeEdge i
  | .trip => s.takeTripSample

/-- The sample of TRIP_N is due and will trip the part (R160). -/
def State.tripDue (s : State) : Bool := s.tripSampleDue && decide (s.trip.state = .normal) && decide (s.pins.tripN = .low)

/-- The events due at the present tick and not yet taken. -/
def State.dueEvents (s : State) : List TickEvent :=
  (if s.dueEntries.isEmpty then [] else [.dispatch])
    ++ (if s.expiredEntries.isEmpty then [] else [.deadlines])
    ++ (masters.filter s.lapseDue).map .lapse
    ++ (allLines.filter s.periodEndDue).map .periodEnd
    ++ (allLines.filter s.highPartEndDue).map .highPartEnd
    ++ (allInputs.filter s.edgeDue).map .edge
    ++ (if s.tripDue then [.trip] else [])

/-- A free order of a list: each element in turn is put at a free place among those after it. With one element nothing is drawn (log 2). -/
def freeOrder {α : Type} (k : Nat) : List α → List α
  | [] => []
  | [x] => [x]
  | x :: y :: ys => (freeOrder k (y :: ys)).insertIdx (Config.raceOrder k (ys.length + 1) % (ys.length + 2)) x

/-- The samples that no other event of the tick can tell apart from a sample taken later: the inputs', and TRIP_N's unless it trips (log 4). -/
def State.takeSamples (s : State) : State :=
  let s₁ := s.takeInputSample
  if s₁.tripDue then s₁ else s₁.takeTripSample

/-- The draws after taking a list of events: one more when an order among them was drawn. -/
def drawsAfter {α : Type} (k : Nat) : List α → Nat
  | [] => k
  | [_] => k
  | _ :: _ :: _ => k + 1

/-- Every event of the present tick that is still due is taken, in a free order (R30: none is held over; log 1, log 2). -/
def State.settle (s : State) : State :=
  let s₁ := s.takeSamples
  (freeOrder s₁.draws s₁.dueEvents).foldl (fun s e => s.takeEvent e) { s₁ with draws := drawsAfter s₁.draws s₁.dueEvents }

/-- What comes from outside at an instant comes before the tick or after it, and after it finds the tick's events taken (R1, R29, R124,
R141; log 1). While RESET_N is low the part takes nothing (R10, R185). -/
def State.outside (s : State) (f : State → State) : State := s.unlessReset fun s => f s.settle

/-- The count advances by one, modulo 2^32, and the samples of the new tick are due (R1, R111, R159). -/
def State.advance (s : State) : State := { s with count := s.count + 1, inputSampleDue := true, tripSampleDue := true }

/-- TICK (R1): what is still due at the present tick is taken, then the count advances. While RESET_N is low no tick occurs (R10). -/
def execTick (s : State) : Host.Outcome State Fault Refusal := .next (s.outside State.advance)

end Sys2Proof.Machine
end

