-- ==== Sys2Proof/Machine/Lines.lean ====
section
/-! DEFINITION. CLAIM, RELEASE, QUERY_LINE and SET_SAFE (chapter 4). -/

namespace Sys2Proof.Machine

/-- The position of master `m` in a wait list: 1 for the oldest waiter, 0 when it is not waiting (R64, R69). -/
def positionIn (waits : List Master) (m : Master) : Nat := if m ∈ waits then waits.idxOf m + 1 else 0

/-- The payload of a CLAIM response: line, owner, position (R69). -/
def State.claimPayload (s : State) (m : Master) (l : Fin 16) : List Byte :=
  [countByte l.val, ownerCode (s.line l).owner, countByte (positionIn (s.line l).waits m)]

/-- CLAIM of line `l`, `wait` the wait flag, by the table of R68. -/
def State.claimLine (s : State) (m : Master) (l : Fin 16) (wait : Bool) : State × Reply :=
  match (s.line l).owner with
  | none =>
    let t := s.setLine l { s.line l with owner := some m }
    (t, { status := .ok, payload := t.claimPayload m l })
  | some o =>
    if o = m then (s, { status := .already, payload := s.claimPayload m l })
    else if !wait then (s, { status := .owned, payload := s.claimPayload m l })
    else if m ∈ (s.line l).waits then (s, { status := .queued, payload := s.claimPayload m l })
    else
      let t := s.setLine l { s.line l with waits := (s.line l).waits ++ [m] }
      (t, { status := .queued, payload := t.claimPayload m l })

/-- CLAIM with its range checks (R67, R68). -/
def claim (m : Master) (p : List Byte) (s : State) : State × Reply :=
  if 15#8 < byteAt p 0 || 1#8 < byteAt p 1 then (s, Reply.refuse .range)
  else s.claimLine m (lineOfByte (byteAt p 0)) (byteAt p 1 = 1)

/-- RELEASE by the owner: its entries for the line are purged, then the line is returned (R72). -/
def State.releaseOwned (s : State) (m : Master) (l : Fin 16) : State × Reply :=
  let t := (s.purgeLine m l).returnLine l .released
  (t, { status := .ok, payload := [countByte (s.poolUsed - t.poolUsed), ownerCode (t.line l).owner] })

/-- RELEASE as owner, as waiter, or as neither (R70, R72, R73). -/
def State.releaseLine (s : State) (m : Master) (l : Fin 16) : State × Reply :=
  if (s.line l).owner = some m then s.releaseOwned m l
  else if m ∈ (s.line l).waits then (s.withdrawWait m l, { status := .ok, payload := [0, ownerCode (s.line l).owner] })
  else (s, Reply.refuse .notOwner)

/-- RELEASE with its range check (R70). -/
def release (m : Master) (p : List Byte) (s : State) : State × Reply :=
  if 15#8 < byteAt p 0 then (s, Reply.refuse .range) else s.releaseLine m (lineOfByte (byteAt p 0))

/-- The generator state code: 0 IDLE, 1 RUNNING, 2 STOPPING (section 11.4). -/
def genStateCode : GenState → Byte
  | .idle => 0
  | .running => 1
  | .stopping => 2

/-- The line status byte: mode in bit 0, level in bit 1, safe level in bit 2, generator state in bits 4 and 3, staged flag in bit 5
(section 11.4). -/
def lineStatusByte (r : LineRecord) (g : Generator) : Byte :=
  (match r.mode with | .train => 1#8 | .static => 0#8) ||| (levelCode r.level <<< 1) ||| (levelCode r.safe <<< 2)
    ||| (genStateCode g.state <<< 3) ||| (if g.staged.isSome then 0x20#8 else 0#8)

/-- The wait position `i`, counted from 0, as a byte: 0 for no master (section 11.4). -/
def waitByte (waits : List Master) (i : Nat) : Byte := ownerCode waits[i]?

/-- The description of a line (R83, section 11.4). -/
def State.lineDescription (s : State) (l : Fin 16) : List Byte :=
  [countByte l.val, lineStatusByte (s.line l) (s.gen l), ownerCode (s.line l).owner] ++ (s.gen l).current.record.bytes
    ++ bytes16 (s.gen l).remaining ++ [waitByte (s.line l).waits 0, waitByte (s.line l).waits 1, countByte (s.entriesFor l)]

/-- QUERY_LINE (R83). -/
def queryLine (_m : Master) (p : List Byte) (s : State) : State × Reply :=
  if 15#8 < byteAt p 0 then (s, Reply.refuse .range)
  else (s, { status := .ok, payload := s.lineDescription (lineOfByte (byteAt p 0)) })

/-- A new safe level; the line is driven to it at once when it is unowned or the part is tripped (R81). -/
def State.putSafe (s : State) (l : Fin 16) (v : Level) : State :=
  if (s.line l).owner = none ∨ s.trip.state = .tripped then s.setLine l { s.line l with safe := v, level := v }
  else s.setLine l { s.line l with safe := v }

/-- SET_SAFE (R81). -/
def setSafe (_m : Master) (p : List Byte) (s : State) : State × Reply :=
  if 15#8 < byteAt p 0 || 1#8 < byteAt p 1 then (s, Reply.refuse .range)
  else
    let l := lineOfByte (byteAt p 0)
    let t := s.putSafe l (levelOfBit (byteAt p 1 = 1))
    (t, { status := .ok, payload := [countByte l.val, levelCode (t.line l).safe, levelCode (t.line l).level] })

end Sys2Proof.Machine
end

