-- ==== Sys2Proof/Machine/Notices.lean ====
section
/-! DEFINITION. READ_NOTICES (chapter 8). -/

namespace Sys2Proof.Machine

/-- READ_NOTICES (R152). -/
def readNotices (m : Master) (p : List Byte) (s : State) : State × Reply :=
  if byteAt p 0 = 0 || 3#8 < byteAt p 0 then (s, Reply.refuse .range)
  else
    let q := s.noticeQueue m
    let n := (byteAt p 0).toNat
    (s.setNotices m { queue := q.queue.drop n, lost := 0 },
      { status := .ok
        payload := [countByte (q.queue.drop n).length, q.lost] ++ ((q.queue.take n).map Notice.bytes).flatten })

end Sys2Proof.Machine
end

