-- ==== Sys2Proof/Machine/Resets.lean ====
section
/-! DEFINITION. POWER_ON, RESET_N_ASSERTED, RESET_N_RELEASED and RESET_DEVICE (R10, R11, R43, R61, R86, R87, R109, R127, R128, R145, R146,
R158, R168, R183, R186). -/

namespace Sys2Proof.Machine

/-- Every block at its reset values, the straps sampled (R10, R185). The pins' levels, the queue and the draws are not the part's to reset. -/
def State.restart (s : State) (st : Straps) : State :=
  State.afterReset st s.pins s.spiA.select s.spiB.select s.draws s.pending

/-- The level of RESET_N changes. -/
def State.setResetPin (s : State) (v : Level) : State := { s with pins := { s.pins with resetN := v } }

/-- RESET_N goes low: every block is at its reset values, no sample is due and the straps keep their last sampling (R10, R86, R185; log 13). -/
def State.assertReset (s : State) : State :=
  { (s.setResetPin .low).restart Config.resetStraps with
    tickUnit := s.tickUnit, configPort := s.configPort, i2cAddress := s.i2cAddress }

/-- RESET_N goes high: the straps are sampled and the first tick occurs at the count 0 (R10). -/
def State.releaseReset (s : State) (st : Straps) : State := (s.setResetPin .high).restart st

/-- An input record at RESET_DEVICE: NONE, 0, 0, STABLE at the level of the last sample (R128). -/
def InputRecord.softReset (r : InputRecord) : InputRecord :=
  { select := .none, filterLength := 0, raw := r.raw, filtered := r.raw, filter := .stable, sequence := 0 }

/-- A port at RESET_DEVICE: the response is discarded, what is being sent goes on but is no longer held, the counters become 0; the
receive state and the bytes are not touched (R183, R184). -/
def PortRecord.softReset (p : PortRecord) : PortRecord :=
  { p with response := none, sending := p.sending.map (fun x => { x with holds := false }), aborts := 0, crcErrors := 0, collisions := 0 }

/-- Every input record at RESET_DEVICE (R128). -/
def State.softResetInputs (s : State) : State := allInputs.foldl (fun s i => s.setInput i (s.input i).softReset) s

/-- Every port at RESET_DEVICE (R183). -/
def State.softResetPorts (s : State) : State := masters.foldl (fun s m => s.setPort m (s.port m).softReset) s

/-- Every block but the timebase at its RESET_DEVICE values (R11, R183). -/
def State.softReset (s : State) : State :=
  { s.softResetInputs.softResetPorts with
    timed := []
    armed := []
    lastTicket := 0
    quotas := PerMaster.all Config.resetQuota
    lines := Vector.replicate 16 LineRecord.initial
    gens := Vector.replicate 16 Generator.idle
    captures := PerMaster.all CaptureState.initial
    sessions := PerMaster.all .closed
    notices := PerMaster.all NoticeQueue.initial
    trip := { TripRecord.initial with lastSample := s.trip.lastSample }
    stallTimeouts := 0 }

/-- RESET_DEVICE (R183). -/
def resetDevice (_m : Master) (_p : List Byte) (s : State) : State × Reply := (s.softReset, { status := .ok, payload := [] })

/-- POWER_ON (R10): the whole power-on reset as one step, the straps sampled at its end (log 14). -/
def execPowerOn (st : Straps) (s : State) : Host.Outcome State Fault Refusal := .next (s.restart st)

/-- RESET_N_ASSERTED (R10, R86). -/
def execResetNAsserted (s : State) : Host.Outcome State Fault Refusal := .next s.assertReset

/-- RESET_N_RELEASED (R10); with RESET_N already HIGH nothing is released (log 3). -/
def execResetNReleased (st : Straps) (s : State) : Host.Outcome State Fault Refusal :=
  .next (if s.inReset then s.releaseReset st else s)

end Sys2Proof.Machine
end

