-- ==== Sys2Proof/Machine/Commands.lean ====
section
/-! DEFINITION. The twenty-two command rows: each is a complete frame with a good CRC at the port of master `m` (R172, R181; log 7). -/

namespace Sys2Proof.Machine

/-- NOP (R182). -/
def execNop (m : Master) (tag : Byte) (p : List Byte) (s : State) : Host.Outcome State Fault Refusal :=
  .next (s.outside fun s => s.command m tag .nop p nop)

/-- TIME (R9). -/
def execTime (m : Master) (tag : Byte) (p : List Byte) (s : State) : Host.Outcome State Fault Refusal :=
  .next (s.outside fun s => s.command m tag .time p time)

/-- STATUS (R141). -/
def execStatus (m : Master) (tag : Byte) (p : List Byte) (s : State) : Host.Outcome State Fault Refusal :=
  .next (s.outside fun s => s.command m tag .status p status)

/-- OPEN (R131). -/
def execOpen (m : Master) (tag : Byte) (p : List Byte) (s : State) : Host.Outcome State Fault Refusal :=
  .next (s.outside fun s => s.command m tag .openSession p openSession)

/-- RENEW (R133). -/
def execRenew (m : Master) (tag : Byte) (p : List Byte) (s : State) : Host.Outcome State Fault Refusal :=
  .next (s.outside fun s => s.command m tag .renew p renew)

/-- CLOSE (R134). -/
def execClose (m : Master) (tag : Byte) (p : List Byte) (s : State) : Host.Outcome State Fault Refusal :=
  .next (s.outside fun s => s.command m tag .close p close)

/-- CLAIM (R67, R68). -/
def execClaim (m : Master) (tag : Byte) (p : List Byte) (s : State) : Host.Outcome State Fault Refusal :=
  .next (s.outside fun s => s.command m tag .claim p claim)

/-- RELEASE (R70). -/
def execRelease (m : Master) (tag : Byte) (p : List Byte) (s : State) : Host.Outcome State Fault Refusal :=
  .next (s.outside fun s => s.command m tag .release p release)

/-- QUERY_LINE (R83). -/
def execQueryLine (m : Master) (tag : Byte) (p : List Byte) (s : State) : Host.Outcome State Fault Refusal :=
  .next (s.outside fun s => s.command m tag .queryLine p queryLine)

/-- POST (R19). -/
def execPost (m : Master) (tag : Byte) (p : List Byte) (s : State) : Host.Outcome State Fault Refusal :=
  .next (s.outside fun s => s.command m tag .post p post)

/-- CANCEL (R36). -/
def execCancel (m : Master) (tag : Byte) (p : List Byte) (s : State) : Host.Outcome State Fault Refusal :=
  .next (s.outside fun s => s.command m tag .cancel p cancel)

/-- CANCEL_LINE (R38). -/
def execCancelLine (m : Master) (tag : Byte) (p : List Byte) (s : State) : Host.Outcome State Fault Refusal :=
  .next (s.outside fun s => s.command m tag .cancelLine p cancelLine)

/-- QUERY_ENTRY (R40). -/
def execQueryEntry (m : Master) (tag : Byte) (p : List Byte) (s : State) : Host.Outcome State Fault Refusal :=
  .next (s.outside fun s => s.command m tag .queryEntry p queryEntry)

/-- SUBSCRIBE (R122). -/
def execSubscribe (m : Master) (tag : Byte) (p : List Byte) (s : State) : Host.Outcome State Fault Refusal :=
  .next (s.outside fun s => s.command m tag .subscribe p subscribe)

/-- READ_CAPTURES (R123). -/
def execReadCaptures (m : Master) (tag : Byte) (p : List Byte) (s : State) : Host.Outcome State Fault Refusal :=
  .next (s.outside fun s => s.command m tag .readCaptures p readCaptures)

/-- READ_INPUTS (R124). -/
def execReadInputs (m : Master) (tag : Byte) (p : List Byte) (s : State) : Host.Outcome State Fault Refusal :=
  .next (s.outside fun s => s.command m tag .readInputs p readInputs)

/-- READ_NOTICES (R152). -/
def execReadNotices (m : Master) (tag : Byte) (p : List Byte) (s : State) : Host.Outcome State Fault Refusal :=
  .next (s.outside fun s => s.command m tag .readNotices p readNotices)

/-- CLEAR_TRIP (R164). -/
def execClearTrip (m : Master) (tag : Byte) (p : List Byte) (s : State) : Host.Outcome State Fault Refusal :=
  .next (s.outside fun s => s.command m tag .clearTrip p clearTrip)

/-- SET_QUOTA (R41). -/
def execSetQuota (m : Master) (tag : Byte) (p : List Byte) (s : State) : Host.Outcome State Fault Refusal :=
  .next (s.outside fun s => s.command m tag .setQuota p setQuota)

/-- SET_SAFE (R81). -/
def execSetSafe (m : Master) (tag : Byte) (p : List Byte) (s : State) : Host.Outcome State Fault Refusal :=
  .next (s.outside fun s => s.command m tag .setSafe p setSafe)

/-- SET_INPUT (R121). -/
def execSetInput (m : Master) (tag : Byte) (p : List Byte) (s : State) : Host.Outcome State Fault Refusal :=
  .next (s.outside fun s => s.command m tag .setInput p setInput)

/-- RESET_DEVICE (R183). -/
def execResetDevice (m : Master) (tag : Byte) (p : List Byte) (s : State) : Host.Outcome State Fault Refusal :=
  .next (s.outside fun s => s.command m tag .resetDevice p resetDevice)

end Sys2Proof.Machine
end

