-- ==== Sys2Proof/Machine/Ports.lean ====
section
/-! DEFINITION. The bus events of the ports: SPI frames, I2C transactions and the stall limit (chapter 10). -/

namespace Sys2Proof.Machine

/-- The master an SPI port serves (R169). -/
def portMaster : SpiPort → Master
  | .a => .a
  | .b => .b

/-- The bus state of an SPI port. -/
def State.spi (s : State) : SpiPort → SpiBus
  | .a => s.spiA
  | .b => s.spiB

/-- The bus state of an SPI port replaced. -/
def State.setSpi (s : State) (p : SpiPort) (b : SpiBus) : State :=
  match p with
  | .a => { s with spiA := b }
  | .b => { s with spiB := b }

/-- What each command does at its owning block. -/
def meaningOf : Command → Meaning
  | .nop => nop
  | .time => time
  | .status => status
  | .openSession => openSession
  | .renew => renew
  | .close => close
  | .claim => claim
  | .release => release
  | .queryLine => queryLine
  | .post => post
  | .cancel => cancel
  | .cancelLine => cancelLine
  | .queryEntry => queryEntry
  | .subscribe => subscribe
  | .readCaptures => readCaptures
  | .readInputs => readInputs
  | .readNotices => readNotices
  | .clearTrip => clearTrip
  | .setQuota => setQuota
  | .setSafe => setSafe
  | .setInput => setInput
  | .resetDevice => resetDevice

/-! ### Complete frames (R170, R172, R181) -/

/-- The bytes received, by their number and by the third of them (R174, R177). -/
inductive FrameClass where
  | empty
  | aborted
  | complete (code tag : Byte) (payload : List Byte) (crcGood : Bool)
  deriving DecidableEq, Repr

/-- The frame whose first three bytes are known: complete when 4 + L bytes have come, its CRC checked over all before it; bytes after the
CRC byte are ignored (R170, R187). -/
def classifyFrame (code tag len : Byte) (rest : List Byte) : FrameClass :=
  if len.toNat + 1 ≤ rest.length then
    .complete code tag (rest.take len.toNat)
      (decide (crc8 ([code, tag, len] ++ rest.take len.toNat) = byteAt rest len.toNat))
  else .aborted

/-- An SPI frame of fewer than three bytes is empty (R174). -/
def classifySpi : List Byte → FrameClass
  | [] => .empty
  | [_] => .empty
  | [_, _] => .empty
  | code :: tag :: len :: rest => classifyFrame code tag len rest

/-- A write of no bytes is empty; one of one or two bytes is aborted (R177). -/
def classifyI2c : List Byte → FrameClass
  | [] => .empty
  | [_] => .aborted
  | [_, _] => .aborted
  | code :: tag :: len :: rest => classifyFrame code tag len rest

/-- The abort count rises (R174, R177). -/
def State.countAbort (s : State) (m : Master) : State := s.setPort m { s.port m with aborts := satInc (s.port m).aborts }

/-- The CRC error count rises (R172). -/
def State.countCrcError (s : State) (m : Master) : State := s.setPort m { s.port m with crcErrors := satInc (s.port m).crcErrors }

/-- A complete frame with a good CRC (R172, R181, R188). -/
def State.goodFrame (s : State) (m : Master) (code tag : Byte) (payload : List Byte) : State :=
  match Command.ofCode code with
  | some c => s.command m tag c payload (meaningOf c)
  | none =>
    match (s.port m).response with
    | none => s.respond m tag code (Reply.refuse .unknownCommand)
    | some r => s.collide m r

/-- A complete frame with a bad CRC (R172). -/
def State.badFrame (s : State) (m : Master) (code tag : Byte) : State :=
  let s₁ := s.countCrcError m
  match (s.port m).response with
  | none => s₁.respond m tag code (Reply.refuse .badCrc)
  | some r => s₁.collide m r

/-- A frame handled by its class (R172, R174, R177). -/
def State.handleFrame (s : State) (m : Master) : FrameClass → State
  | .empty => s
  | .aborted => s.countAbort m
  | .complete code tag payload true => s.goodFrame m code tag payload
  | .complete code tag _ false => s.badFrame m code tag

/-! ### Sending and delivery (R171 to R174, R178) -/

/-- The IDLE response, its flags built from the state as it stands (R171). -/
def State.idleResponse (s : State) (m : Master) : Response := s.buildResponse m 0 0 { status := .idle, payload := [] }

/-- What a fetch fixes to send: the pending response as it stands, or an IDLE response (R173, R178). -/
def State.fetched (s : State) (m : Master) : Sending :=
  match (s.port m).response with
  | some r => { bytes := r.bytes, holds := true }
  | none => { bytes := (s.idleResponse m).bytes, holds := false }

/-- A frame or an addressed transaction begins at the port: no bytes moved, what to send fixed (R173, R176). -/
def State.beginTransfer (s : State) (m : Master) (x : Option Sending) : State :=
  s.setPort m { s.port m with sending := x, bytesReceived := 0, bytesSent := 0, wire := [] }

/-- The first `n` bytes put out: those fixed, then 0xFF for every further byte (R171). -/
def wireBytes (x : List Byte) (n : Nat) : List Byte := x.take n ++ List.replicate (n - x.length) 0xFF

/-- The bytes fixed to be sent; a port that sends nothing leaves the line at 0xFF (R175). -/
def sendingBytes : Option Sending → List Byte
  | none => []
  | some x => x.bytes

/-- The first `n` bytes have been sent: they stand on the wire, and the response is delivered when they are all of it and the port still
holds it (R172, R184). -/
def PortRecord.sent (p : PortRecord) (n : Nat) : PortRecord :=
  match p.sending with
  | none => { p with bytesSent := n, wire := wireBytes [] n }
  | some x =>
    if x.holds && decide (x.bytes.length ≤ n) then
      { p with bytesSent := n, wire := wireBytes x.bytes n, response := none, sending := some { x with holds := false } }
    else { p with bytesSent := n, wire := wireBytes x.bytes n }

/-- The port counts `n` bytes as sent. -/
def State.sendBytes (s : State) (m : Master) (n : Nat) : State := s.setPort m ((s.port m).sent n)

/-- The port counts `n` bytes as received. -/
def State.receiveBytes (s : State) (m : Master) (n : Nat) : State := s.setPort m { s.port m with bytesReceived := n }

/-- What was fixed to be sent is no longer being sent. -/
def State.endTransfer (s : State) (m : Master) : State := s.setPort m { s.port m with sending := none }

/-! ### SPI (R173 to R175) -/

/-- A frame begins at an SPI port: IN_FRAME, and what to send is fixed (R173). -/
def State.spiBegin (s : State) (p : SpiPort) : State :=
  (s.setSpi p { receive := .inFrame, select := .low }).beginTransfer (portMaster p) (some (s.fetched (portMaster p)))

/-- A falling edge of SEL_x_N: the pin goes LOW, and a frame begins (R173). While RESET_N is low it opens no frame (R175, R185). With the
select already LOW nothing falls (log 3). -/
def State.spiStart (s : State) (p : SpiPort) : State :=
  if (s.spi p).select = .high then
    if s.inReset then s.setSpi p { s.spi p with select := .low } else s.settle.spiBegin p
  else s

/-- The end of a frame in which `bytes` were received: delivery, then the frame by its class, then IDLE (R174). -/
def State.spiFinish (s : State) (p : SpiPort) (bytes : List Byte) : State :=
  let m := portMaster p
  let s₁ := (s.receiveBytes m bytes.length).sendBytes m bytes.length
  ((s₁.handleFrame m (classifySpi bytes)).endTransfer m).setSpi p { receive := .idle, select := .high }

/-- A rising edge of a select that opened no frame: 0xFF was sent, nothing is counted, delivered or taken (R175). -/
def State.spiNoFrame (s : State) (p : SpiPort) (bytes : List Byte) : State :=
  (s.setPort (portMaster p) { s.port (portMaster p) with wire := wireBytes [] bytes.length }).setSpi p { receive := .idle, select := .high }

/-- A rising edge of SEL_x_N (R174, R175); with the select already HIGH, nothing (log 3). -/
def State.spiEnd (s : State) (p : SpiPort) (bytes : List Byte) : State :=
  if (s.spi p).select = .low then
    match (s.spi p).receive with
    | .inFrame => if s.inReset then s.spiNoFrame p bytes else s.settle.spiFinish p bytes
    | .idle => s.spiNoFrame p bytes
  else s

/-! ### I2C (R176 to R180) -/

/-- Port C's receive state replaced. -/
def State.setI2c (s : State) (x : I2cReceive) : State := { s with i2c := x }

/-- The address byte after a START or a repeated START (R176, R178, R180). -/
def State.i2cStart (s : State) (address : BitVec 7) (read : Bool) : State :=
  if address = s.i2cAddress then
    if read then (s.beginTransfer .c (some (s.fetched .c))).setI2c .read else (s.beginTransfer .c none).setI2c .write
  else (s.setI2c .notAddressed).endTransfer .c

/-- The end of a write transaction in which `bytes` were written: the frame by its class, then IDLE (R177). -/
def State.i2cWriteFinish (s : State) (bytes : List Byte) : State :=
  ((s.receiveBytes .c bytes.length).handleFrame .c (classifyI2c bytes)).setI2c .idle

/-- The STOP or repeated START that ends a write transaction (R177); outside WRITE nothing ends (log 3). -/
def State.i2cWriteEnd (s : State) (bytes : List Byte) : State :=
  match s.i2c with
  | .write => s.outside fun s => s.i2cWriteFinish bytes
  | .idle => s
  | .read => s
  | .notAddressed => s

/-- `n` bytes of the read in progress are counted as sent; the count never falls (R178). -/
def State.i2cSend (s : State) (n : Nat) : State := s.sendBytes .c (max n (s.port .c).bytesSent)

/-- The byte 6 + M of what the read sends is counted as sent (R178); outside READ nothing is sent (log 3). -/
def State.i2cDelivered (s : State) : State :=
  match s.i2c with
  | .read => s.i2cSend (sendingBytes (s.port .c).sending).length
  | .idle => s
  | .write => s
  | .notAddressed => s

/-- The end of a read transaction in which `n` bytes were sent (R178); outside READ nothing ends (log 3). -/
def State.i2cReadFinish (s : State) (n : Nat) : State :=
  match s.i2c with
  | .read => ((s.i2cSend n).endTransfer .c).setI2c .idle
  | .idle => s
  | .write => s
  | .notAddressed => s

/-- The stall limit abandons an addressed transaction: the stall timeout count rises, a write's bytes are discarded, a read ends (R179). -/
def State.stall (s : State) (n : Nat) : State :=
  match s.i2c with
  | .write => { (s.receiveBytes .c 0).setI2c .idle with stallTimeouts := satInc s.stallTimeouts }
  | .read => { ((s.i2cSend n).endTransfer .c).setI2c .idle with stallTimeouts := satInc s.stallTimeouts }
  | .idle => s
  | .notAddressed => s

/-- A STOP while NOT_ADDRESSED returns the port to IDLE; in IDLE it ends nothing (R176, R179). -/
def State.stopUnaddressed (s : State) : State :=
  match s.i2c with
  | .notAddressed => s.setI2c .idle
  | .idle => s
  | .write => s
  | .read => s

/-- SPI_FRAME_START (R173). -/
def execSpiFrameStart (p : SpiPort) (s : State) : Host.Outcome State Fault Refusal := .next (s.spiStart p)

/-- SPI_FRAME_END (R174). -/
def execSpiFrameEnd (p : SpiPort) (bytes : List Byte) (s : State) : Host.Outcome State Fault Refusal := .next (s.spiEnd p bytes)

/-- I2C_ADDRESS (R176). -/
def execI2cAddress (address : BitVec 7) (read : Bool) (s : State) : Host.Outcome State Fault Refusal :=
  .next (s.outside fun s => s.i2cStart address read)

/-- I2C_WRITE_END (R177). -/
def execI2cWriteEnd (bytes : List Byte) (s : State) : Host.Outcome State Fault Refusal :=
  .next (s.i2cWriteEnd bytes)

/-- I2C_RESPONSE_DELIVERED (R178). -/
def execI2cResponseDelivered (s : State) : Host.Outcome State Fault Refusal := .next (s.unlessReset State.i2cDelivered)

/-- I2C_READ_END (R178). -/
def execI2cReadEnd (sent : Nat) (s : State) : Host.Outcome State Fault Refusal := .next (s.unlessReset fun s => s.i2cReadFinish sent)

/-- STALL_TIMEOUT (R179). -/
def execStallTimeout (sent : Nat) (s : State) : Host.Outcome State Fault Refusal := .next (s.unlessReset fun s => s.stall sent)

/-- STOP_WHILE_NOT_ADDRESSED (R176, R179). -/
def execStopWhileNotAddressed (s : State) : Host.Outcome State Fault Refusal := .next (s.unlessReset State.stopUnaddressed)

end Sys2Proof.Machine
end

