-- ==== Sys2Proof/Machine/Dispatch.lean ====
section
/-! DEFINITION. One arm per command and event: each calls its meaning. -/

namespace Sys2Proof.Machine

def exec (i : Instr) (s : State) : Host.Outcome State Fault Refusal :=
  match i with
  | .nop m tag p => Sys2Proof.Machine.execNop m tag p s
  | .time m tag p => Sys2Proof.Machine.execTime m tag p s
  | .status m tag p => Sys2Proof.Machine.execStatus m tag p s
  | .openSession m tag p => Sys2Proof.Machine.execOpen m tag p s
  | .renew m tag p => Sys2Proof.Machine.execRenew m tag p s
  | .close m tag p => Sys2Proof.Machine.execClose m tag p s
  | .claim m tag p => Sys2Proof.Machine.execClaim m tag p s
  | .release m tag p => Sys2Proof.Machine.execRelease m tag p s
  | .queryLine m tag p => Sys2Proof.Machine.execQueryLine m tag p s
  | .post m tag p => Sys2Proof.Machine.execPost m tag p s
  | .cancel m tag p => Sys2Proof.Machine.execCancel m tag p s
  | .cancelLine m tag p => Sys2Proof.Machine.execCancelLine m tag p s
  | .queryEntry m tag p => Sys2Proof.Machine.execQueryEntry m tag p s
  | .subscribe m tag p => Sys2Proof.Machine.execSubscribe m tag p s
  | .readCaptures m tag p => Sys2Proof.Machine.execReadCaptures m tag p s
  | .readInputs m tag p => Sys2Proof.Machine.execReadInputs m tag p s
  | .readNotices m tag p => Sys2Proof.Machine.execReadNotices m tag p s
  | .clearTrip m tag p => Sys2Proof.Machine.execClearTrip m tag p s
  | .setQuota m tag p => Sys2Proof.Machine.execSetQuota m tag p s
  | .setSafe m tag p => Sys2Proof.Machine.execSetSafe m tag p s
  | .setInput m tag p => Sys2Proof.Machine.execSetInput m tag p s
  | .resetDevice m tag p => Sys2Proof.Machine.execResetDevice m tag p s
  | .tick => Sys2Proof.Machine.execTick s
  | .dispatch => Sys2Proof.Machine.execDispatch s
  | .deadlineReached => Sys2Proof.Machine.execDeadlineReached s
  | .lapse m => Sys2Proof.Machine.execLapse m s
  | .periodEnd l => Sys2Proof.Machine.execPeriodEnd l s
  | .highPartEnd l => Sys2Proof.Machine.execHighPartEnd l s
  | .inputSample v => Sys2Proof.Machine.execInputSample v s
  | .acceptedEdge j => Sys2Proof.Machine.execAcceptedEdge j s
  | .trip => Sys2Proof.Machine.execTrip s
  | .reAssertion => Sys2Proof.Machine.execReAssertion s
  | .powerOn st => Sys2Proof.Machine.execPowerOn st s
  | .resetNAsserted => Sys2Proof.Machine.execResetNAsserted s
  | .resetNReleased st => Sys2Proof.Machine.execResetNReleased st s
  | .spiFrameStart p => Sys2Proof.Machine.execSpiFrameStart p s
  | .spiFrameEnd p bytes => Sys2Proof.Machine.execSpiFrameEnd p bytes s
  | .i2cAddress address read => Sys2Proof.Machine.execI2cAddress address read s
  | .i2cWriteEnd bytes => Sys2Proof.Machine.execI2cWriteEnd bytes s
  | .i2cResponseDelivered => Sys2Proof.Machine.execI2cResponseDelivered s
  | .i2cReadEnd sent => Sys2Proof.Machine.execI2cReadEnd sent s
  | .stallTimeout sent => Sys2Proof.Machine.execStallTimeout sent s
  | .riseOfTripN => Sys2Proof.Machine.execRiseOfTripN s
  | .stopWhileNotAddressed => Sys2Proof.Machine.execStopWhileNotAddressed s

end Sys2Proof.Machine
end

