-- ==== Sys2Proof/Safety.lean ====
section
/-! DEFINITION. The conditions the spec says hold at every instant, as predicates of the state, and the words the statements share: a part
with nothing left due at its tick, a frame that is taken, the row of a command. -/

namespace Sys2Proof.Machine

/-! ### What the rules say of a state at every instant -/

/-- A train part is in its range: P is at least 2 (R13, R22, R88). -/
def TrainRecord.inRange (r : TrainRecord) : Prop := 2 ≤ r.period.toNat

/-- The train part of an action is in its range. -/
def Action.inRange : Action → Prop
  | .driveLow => True
  | .driveHigh => True
  | .toggle => True
  | .train r => r.inRange
  | .trainStop => True

/-- The fields of an entry are in their ranges: a ticket of 1 or more, a train period of 2 or more, an interval of 1 or more (R13). -/
def EntryCore.inRange (e : EntryCore) : Prop :=
  e.ticket ≠ 0 ∧ e.action.inRange ∧ ∀ r, e.repeatPart = some r → r.interval ≠ 0

/-- The fields of a generator are in their ranges: a train in range, a source ticket, and a period of P or P + 1 ticks (R88, R91). -/
def Generator.inRange (g : Generator) : Prop :=
  (g.state ≠ .idle → g.current.record.inRange ∧ g.current.source ≠ 0 ∧
    (g.periodLength = g.current.record.period.toNat ∨ g.periodLength = g.current.record.period.toNat + 1)) ∧
  ∀ j, g.staged = some j → j.record.inRange ∧ j.source ≠ 0

/-- Every field of the pool and the generators is in its range, every quota is 1 to 64, every watermark 1 to 16 (R13, R14, R88, R117). -/
def FieldsOk (s : State) : Prop :=
  (∀ e ∈ s.timed, e.core.inRange) ∧ (∀ e ∈ s.armed, e.core.inRange) ∧ (∀ l, (s.gen l).inRange) ∧
  ∀ m, (1 ≤ s.quota m ∧ s.quota m ≤ 64) ∧ 1 ≤ (s.capture m).watermark ∧ (s.capture m).watermark ≤ 16

/-- The tickets of the entries in the pool. -/
def State.tickets (s : State) : List Ticket := (s.timed.map fun e => e.core.ticket) ++ (s.armed.map fun e => e.core.ticket)

/-- The pool holds at most 64 entries, no two with one ticket and none with ticket 0 (R12, R15). -/
def PoolOk (s : State) : Prop := s.poolUsed ≤ 64 ∧ s.tickets.Nodup ∧ (0 : Ticket) ∉ s.tickets

/-- The poster of every entry owns the entry's line (R63). -/
def EntriesOwned (s : State) : Prop :=
  (∀ e ∈ s.timed, (s.line e.core.line).owner = some e.core.poster) ∧
  ∀ e ∈ s.armed, (s.line e.core.line).owner = some e.core.poster

/-- Owners and waiters are ACTIVE; a wait list holds no master twice, never the owner, and is empty on an unowned line (R63, R64). -/
def OwnersOk (s : State) : Prop :=
  ∀ l, (∀ m, (s.line l).owner = some m → s.isActive m = true) ∧
    (∀ m ∈ (s.line l).waits, s.isActive m = true ∧ (s.line l).owner ≠ some m) ∧
    (s.line l).waits.Nodup ∧ ((s.line l).owner = none → (s.line l).waits = [])

/-- A line is in TRAIN mode while its generator is not IDLE; an IDLE generator's fields are cleared; a STOPPING generator holds no staged
record; an unowned line, and every line while the part is tripped, is STATIC at its safe level (R65, R66, R89, R161). -/
def LinesOk (s : State) : Prop :=
  ∀ l, ((s.line l).mode = .train ↔ (s.gen l).state ≠ .idle) ∧
    ((s.gen l).state = .idle → s.gen l = Generator.idle) ∧
    ((s.gen l).state = .stopping → (s.gen l).staged = none) ∧
    ((s.line l).owner = none ∨ s.trip.state = .tripped → (s.line l).mode = .static ∧ (s.line l).level = (s.line l).safe)

/-- What a master may hold in each session state: queues of at most sixteen; no captures and no subscription unless ACTIVE; no notice when
CLOSED; at most the LAPSED notice when LAPSED (R117, R138, R140, R148, R149). -/
def HoldingsOk (s : State) : Prop :=
  ∀ m, (s.noticeQueue m).queue.length ≤ 16 ∧ (s.capture m).queue.length ≤ 16 ∧
    (s.isActive m = false → s.capture m = CaptureState.initial) ∧
    (s.session m = .closed → s.noticeQueue m = NoticeQueue.initial) ∧
    (s.session m = .lapsed → (s.noticeQueue m).lost = 0 ∧
      ((s.noticeQueue m).queue = [] ∨ ∃ n, (s.noticeQueue m).queue = [n] ∧ n.kind = .lapsed))

/-- A STABLE input's raw level equals its filtered level, a CANDIDATE input's differs from it (R110). -/
def FiltersOk (s : State) : Prop := ∀ i, (s.input i).filter = .stable ↔ (s.input i).raw = (s.input i).filtered

/-- A pending response has at most 32 bytes of payload, so at most 38 bytes are fixed to be sent, and a select that is high has no frame
in progress (R171, R173). -/
def PortsOk (s : State) : Prop :=
  (∀ m r, (s.port m).response = some r → r.payload.length ≤ 32) ∧
  (∀ m x, (s.port m).sending = some x → x.bytes.length ≤ 38) ∧
  ∀ p, (s.spi p).select = .high → (s.spi p).receive = .idle

/-- No time is ever passed over. The calendar stands in ascending distance; every due time and every armed deadline is at a distance below
2^31; every lease is of 100 to 120,000,000 ticks with its deadline at most the period away; no period end is behind (R4, R17, R46, R130). -/
def TimesOk (s : State) : Prop :=
  (s.timed.Pairwise fun x y => distance s.count x.due ≤ distance s.count y.due) ∧
  (∀ e ∈ s.timed, distance s.count e.due < 2147483648) ∧
  (∀ e ∈ s.armed, ∀ d, e.deadline = some d → distance s.count d < 2147483648) ∧
  (∀ m period deadline, s.session m = .active period deadline →
    100 ≤ period.toNat ∧ period.toNat ≤ 120000000 ∧ distance s.count deadline ≤ period.toNat) ∧
  ∀ l, (s.gen l).state ≠ .idle → distance (s.gen l).periodStart s.count ≤ (s.gen l).periodLength

/-! ### Words the statements share -/

/-- Nothing is left to be taken at the present tick: the samples are taken and no event is due. -/
def Quiet (s : State) : Prop := s.inputSampleDue = false ∧ s.tripSampleDue = false ∧ s.dueEvents = []

/-- The row names an event due at the present tick: an entry due, a deadline reached, a lease deadline reached, a period end, a high part end that
has not been taken, an accepted edge outstanding, a low sample of TRIP_N in NORMAL still to be taken (R4, R30, R56, R90, R98, R113, R136, R160). -/
def DueRow (s : State) : Instr → Prop
  | .dispatch => ∃ e ∈ s.timed, e.due = s.count
  | .deadlineReached => ∃ e ∈ s.armed, e.deadline = some s.count
  | .lapse m => ∃ period, s.session m = .active period s.count
  | .periodEnd l => (s.gen l).state ≠ .idle ∧ s.count = (s.gen l).periodStart + BitVec.ofNat 32 (s.gen l).periodLength
  | .highPartEnd l =>
    (s.gen l).state ≠ .idle ∧ 0 < (s.gen l).current.record.highTime.toNat ∧
      (s.gen l).current.record.highTime.toNat < (s.gen l).periodLength ∧
      s.count = (s.gen l).periodStart + (s.gen l).current.record.highTime.setWidth 32 ∧ (s.line l).level = .high
  | .acceptedEdge i => ∃ since, (s.input i).filter = .candidate since true
  | .trip => s.tripSampleDue = true ∧ s.trip.state = .normal ∧ s.pins.tripN = .low
  | _ => False

/-- The rows that take the samples of the present tick from the pins as they stand; a sample of TRIP_N that trips the part is the row TRIP, an
event of its own (R111, R159; log 4). -/
def sampleRows (s : State) : List Instr :=
  [.inputSample s.pins.inputs] ++
    match s.pins.tripN with
    | .high => [.riseOfTripN]
    | .low => if s.tripSampleDue = true ∧ s.trip.state = .normal then [] else [.reAssertion]

/-- The rows, run one after another, take `s` to `t`. -/
def RunsTo : List Instr → State → State → Prop
  | [], s, t => t = s
  | i :: is, s, t => ∃ u, exec i s = .next u ∧ RunsTo is u t

/-- A complete frame of master `m` that comes in state `s` is taken in state `t`: RESET_N is HIGH, the events of the tick have been taken,
and the port holds no undelivered response (R1, R172, R185; log 1). -/
def TakenIn (s : State) (m : Master) (t : State) : Prop :=
  s.pins.resetN = .high ∧ s.settle = t ∧ (t.port m).response = none

/-- The row of spec/opcode_table.json that carries a command at the port of master `m`. -/
def commandRow (c : Command) (m : Master) (tag : Byte) (p : List Byte) : Instr :=
  match c with
  | .nop => .nop m tag p
  | .time => .time m tag p
  | .status => .status m tag p
  | .openSession => .openSession m tag p
  | .renew => .renew m tag p
  | .close => .close m tag p
  | .claim => .claim m tag p
  | .release => .release m tag p
  | .queryLine => .queryLine m tag p
  | .post => .post m tag p
  | .cancel => .cancel m tag p
  | .cancelLine => .cancelLine m tag p
  | .queryEntry => .queryEntry m tag p
  | .subscribe => .subscribe m tag p
  | .readCaptures => .readCaptures m tag p
  | .readInputs => .readInputs m tag p
  | .readNotices => .readNotices m tag p
  | .clearTrip => .clearTrip m tag p
  | .setQuota => .setQuota m tag p
  | .setSafe => .setSafe m tag p
  | .setInput => .setInput m tag p
  | .resetDevice => .resetDevice m tag p

/-- Every block at the values the chapters give for power-on and RESET_N, with the straps `st` (R10, R43, R61, R86, R109, R127, R145, R158,
R168, R185, R186; log 22). -/
def BlocksReset (t : State) : Prop :=
  t.count = 0 ∧ t.timed = [] ∧ t.armed = [] ∧ t.lastTicket = 0 ∧ (∀ m, t.quota m = 32) ∧
  (∀ l, t.line l = { owner := none, mode := .static, level := .low, safe := .low, waits := [] }) ∧
  (∀ l, t.gen l =
    { state := .idle, staged := none, accumulator := 0, remaining := 0, periodStart := 0, periodLength := 0
      current := { record := { period := 0, fraction := 0, highTime := 0, pulses := 0, rest := .low, endNotice := false }, source := 0 } }) ∧
  (∀ i, (t.input i).select = .none ∧ (t.input i).filterLength = 0 ∧ (t.input i).sequence = 0 ∧ (t.input i).filter = .stable) ∧
  (∀ m, t.capture m = { subscription := 0, watermark := 1, queue := [], lost := 0, gapPending := false }) ∧
  (∀ m, t.session m = .closed) ∧ (∀ m, t.noticeQueue m = { queue := [], lost := 0 }) ∧
  t.trip.state = .normal ∧ t.trip.count = 0 ∧ t.trip.timestamp = 0 ∧
  (∀ m, (t.port m).response = none ∧ (t.port m).sending = none ∧ (t.port m).bytesReceived = 0 ∧ (t.port m).bytesSent = 0 ∧
    (t.port m).aborts = 0 ∧ (t.port m).crcErrors = 0 ∧ (t.port m).collisions = 0) ∧
  (∀ p, (t.spi p).receive = .idle) ∧ t.i2c = .idle ∧ t.stallTimeouts = 0

/-- The straps `st` are in force: the tick unit, the configuring port and port C's address are those they select (R2, R185). -/
def StrapsInForce (t : State) (st : Straps) : Prop :=
  t.tickUnit = st.tick ∧
  t.configPort = (if st.cfg = 0 then none else if st.cfg = 1 then some .a else if st.cfg = 2 then some .b else some .c) ∧
  t.i2cAddress.toNat = 0x58 + st.addr.toNat

/-- The result code of the first of the nine checks that a POST with the payload `p` fails, none when it passes them all (R20 to R24, R46,
R47, R188). -/
def postCheck (t : State) (m : Master) (p : List Byte) : Option Result :=
  let action := p.getD 1 0
  let flags := p.getD 2 0
  let immediate : Prop := flags.getLsbD 0 = true
  let runLate : Prop := flags.getLsbD 2 = true
  let repeats : Prop := flags.getLsbD 3 = true
  let armed : Prop := flags.getLsbD 5 = true
  let deadline : Prop := flags.getLsbD 6 = true
  let length := 3 + (if immediate ∨ armed then 0 else 4) + (if action = 3 then 7 else 0) + (if armed then 4 else 0)
    + (if deadline then 4 else 0) + (if repeats then 5 else 0) + (if flags.getLsbD 4 = true then 1 else 0)
  let f := postFields p
  let select := (t.input (Fin.ofNat 8 f.triggerByte.toNat)).select
  let edge := f.triggerByte.toNat / 16 % 4
  if p.length < 3 ∨ p.length ≠ length then some .badLength
  else if (immediate ∧ armed) ∨ (deadline ∧ ¬ armed) ∨ flags.getLsbD 7 = true ∨
      f.trainByte &&& 0xC0 ≠ 0 ∨ f.triggerByte &&& 0xC8 ≠ 0 ∨ f.guardByte &&& 0x78 ≠ 0 then some .form
  else if 15 < f.line.toNat ∨ 4 < action.toNat ∨ (action = 3 ∧ f.period.toNat < 2) ∨ (repeats ∧ f.interval = 0) ∨
      (armed ∧ edge = 0) then some .range
  else if (t.line (Fin.ofNat 16 f.line.toNat)).owner ≠ some m then some .notOwner
  else if t.quota m ≤ t.held m then some .quota
  else if 64 ≤ t.poolUsed ∧ (armed ∨ (¬ immediate ∧ ¬ armed ∧ classify t.count f.due = .ahead) ∨ (repeats ∧ f.executions ≠ 1)) then some .full
  else if ¬ immediate ∧ ¬ armed ∧ classify t.count f.due = .behind ∧ ¬ runLate then some .late
  else if deadline ∧ classify t.count f.deadline ≠ .ahead then some .late
  else if armed ∧ (select = .none ∨ (select = .rise ∧ edge = 2) ∨ (select = .fall ∧ edge = 1)) then some .neverFires
  else none

end Sys2Proof.Machine
end

