-- ==== Sys2Proof/Certificates/Slice0/Obligations.lean ====
section
/-! DEFINITION. The statements for the provers. Everywhere `TakenIn s m t` says that a complete frame of master `m` that comes in `s` is taken
in `t`, the state in which every event of the present tick has been taken; a conclusion that gives the next state as a record update of `t`
says that every field not named is as it was in `t`. `State.respond` is stated by `ResponseIsBuiltAtTheTaking`, `State.settle` by
`NothingDueIsHeldOver` and `TickAdvancesTheCount`, `State.notify` by `NoticeReachesActiveMasterOnly`. -/

open Sys2Proof Sys2Proof.Machine

/-! ### The queue, the timebase, the resets -/

/-- One step is the command or event at the front of the queue acting with the queue's rest; an empty queue idles (the model's choice,
log 1 and log 15). -/
def Obligations.StepRunsTheFrontOfTheQueue : Prop :=
  (∀ (c : Instr) (rest : List Instr) (s : State), step { s with pending := c :: rest } = exec c { s with pending := rest }) ∧
  ∀ s : State, step { s with pending := [] } = .next { s with pending := [] }

/-- Every row of the table gives a next state from every state, and touches the queue in no case; the count moves only at a tick and at the
resets (R1, R10, R11). -/
def Obligations.EveryRowCompletesAndOnlyTicksMoveTheCount : Prop :=
  ∀ (i : Instr) (s : State), ∃ t, exec i s = .next t ∧ t.pending = s.pending ∧
    t.count = match i with
      | .tick => if s.pins.resetN = .high then s.count + 1 else s.count
      | .powerOn _ => 0
      | .resetNAsserted => 0
      | .resetNReleased _ => if s.pins.resetN = .low then 0 else s.count
      | _ => s.count

/-- The tick unit, the configuring port and port C's address are sampled at power-on and at the release of RESET_N, and hold at every other
command and event (R2, R185). That they stand at RESET_N_ASSERTED too, until the release, is the model's choice (log 13). -/
def Obligations.StrapsHoldUntilTheNextReset : Prop :=
  (∀ (i : Instr) (s t : State), exec i s = .next t → (∀ st, i ≠ .powerOn st) → (∀ st, i ≠ .resetNReleased st) →
    t.tickUnit = s.tickUnit ∧ t.configPort = s.configPort ∧ t.i2cAddress = s.i2cAddress) ∧
  (∀ (s : State) (st : Straps), ∃ t, exec (.powerOn st) s = .next t ∧ StrapsInForce t st) ∧
  ∀ (s : State) (st : Straps), s.pins.resetN = .low → ∃ t, exec (.resetNReleased st) s = .next t ∧ StrapsInForce t st

/-- At a tick the count advances by one, modulo 2^32, and every input and TRIP_N is to be sampled; nothing else changes once the events of
the tick before are taken, and with none left there is nothing to take (R1, R111, R159; log 1). -/
def Obligations.TickAdvancesTheCount : Prop :=
  (∀ s : State, s.pins.resetN = .high →
    exec .tick s = .next { s.settle with count := s.settle.count + 1, inputSampleDue := true, tripSampleDue := true }) ∧
  ∀ s : State, Quiet s → s.settle = s

/-- Settling takes the samples of the tick and then every event due, each once and each by its own row: it is the rows of the samples, then the rows
of `DueRow` in some order, run one after another; only the counter of the draws, the model's own, is set beside. It holds nothing over: with the
fields in their ranges no sample is left and no row is due, in whatever order the events were taken (R4, R30; log 1, log 2, log 4). That a tick and a
command settle first is the model's choice (log 1), stated by `TickAdvancesTheCount` and by the premise `TakenIn` of the commands' statements. -/
def Obligations.NothingDueIsHeldOver : Prop :=
  (∀ s : State, FieldsOk s → Quiet s.settle ∧ ∀ i, ¬ DueRow s.settle i) ∧
  ∀ s : State, s.pins.resetN = .high → ∃ (u : State) (rows : List Instr),
    RunsTo (sampleRows s) s u ∧ rows.Nodup ∧ (∀ i, i ∈ rows ↔ DueRow u i) ∧ RunsTo rows { u with draws := s.settle.draws } s.settle

/-- The distance of a time is taken modulo 2^32; a time is now at distance 0, ahead at 1 to 2^31 − 1 and behind from 2^31. One tick lowers the
distance by one, and takes a time that is now to the distance 2^32 − 1 (R3). -/
def Obligations.DistanceClassesATime : Prop :=
  ∀ c t : Word, distance c t = (t.toNat + 4294967296 - c.toNat) % 4294967296 ∧
    (distance c t = 0 → classify c t = .now) ∧
    (1 ≤ distance c t → distance c t ≤ 2147483647 → classify c t = .ahead) ∧
    (2147483648 ≤ distance c t → classify c t = .behind) ∧
    distance (c + 1) t = if distance c t = 0 then 4294967295 else distance c t - 1

/-- An event for which nothing is due changes nothing (the model's choice, log 3): no entry due, no deadline reached, no lease deadline reached, no
period end or high part end due, no accepted edge outstanding, no falling or rising edge of a select, no write or read to end, to deliver or to
abandon, no STOP to wait for, RESET_N already HIGH. -/
def Obligations.EventWithNothingDueChangesNothing : Prop :=
  ((∀ s : State, (∀ e ∈ s.timed, e.due ≠ s.count) → exec .dispatch s = .next s) ∧
  (∀ s : State, (∀ e ∈ s.armed, e.deadline ≠ some s.count) → exec .deadlineReached s = .next s) ∧
  (∀ (m : Master) (s : State), (∀ p, s.session m ≠ .active p s.count) → exec (.lapse m) s = .next s) ∧
  (∀ (l : Fin 16) (s : State), (s.gen l).state = .idle ∨ s.count ≠ (s.gen l).periodStart + BitVec.ofNat 32 (s.gen l).periodLength →
    exec (.periodEnd l) s = .next s) ∧
  (∀ (l : Fin 16) (s : State),
    let g := s.gen l
    let h := g.current.record.highTime
    g.state = .idle ∨ h = 0 ∨ g.periodLength ≤ h.toNat ∨ s.count ≠ g.periodStart + h.setWidth 32 → exec (.highPartEnd l) s = .next s) ∧
  ∀ (i : Fin 8) (s : State), (∀ e, (s.input i).filter ≠ .candidate e true) → exec (.acceptedEdge i) s = .next s) ∧
  (∀ (p : SpiPort) (s : State), (s.spi p).select = .low → exec (.spiFrameStart p) s = .next s) ∧
  (∀ (p : SpiPort) (b : List Byte) (s : State), (s.spi p).select = .high → exec (.spiFrameEnd p b) s = .next s) ∧
  (∀ (b : List Byte) (s : State), s.i2c ≠ .write → exec (.i2cWriteEnd b) s = .next s) ∧
  (∀ (n : Nat) (s : State), s.i2c ≠ .read → exec (.i2cReadEnd n) s = .next s ∧ exec .i2cResponseDelivered s = .next s) ∧
  (∀ (n : Nat) (s : State), s.i2c ≠ .write → s.i2c ≠ .read → exec (.stallTimeout n) s = .next s) ∧
  (∀ s : State, s.i2c ≠ .notAddressed → exec .stopWhileNotAddressed s = .next s) ∧
  ∀ (st : Straps) (s : State), s.pins.resetN = .high → exec (.resetNReleased st) s = .next s

/-- While RESET_N is low the part takes nothing: no command, no tick and no event of a tick changes its state, and a change of a sampled pin
changes the pin alone (R10, R127, R168, R185). -/
def Obligations.NothingIsTakenWhileResetNIsLow : Prop :=
  ∀ s : State, s.pins.resetN = .low →
    (∀ c m tag p, exec (commandRow c m tag p) s = .next s) ∧
    (∀ i ∈ [Instr.tick, .dispatch, .deadlineReached, .i2cResponseDelivered, .stopWhileNotAddressed], exec i s = .next s) ∧
    (∀ m, exec (.lapse m) s = .next s) ∧ (∀ l, exec (.periodEnd l) s = .next s) ∧ (∀ l, exec (.highPartEnd l) s = .next s) ∧
    (∀ i, exec (.acceptedEdge i) s = .next s) ∧ (∀ a r, exec (.i2cAddress a r) s = .next s) ∧
    (∀ b, exec (.i2cWriteEnd b) s = .next s) ∧ (∀ n, exec (.i2cReadEnd n) s = .next s) ∧ (∀ n, exec (.stallTimeout n) s = .next s) ∧
    (∀ v, exec (.inputSample v) s = .next { s with pins := { s.pins with inputs := v } }) ∧
    exec .trip s = .next { s with pins := { s.pins with tripN := .low } } ∧
    exec .reAssertion s = .next { s with pins := { s.pins with tripN := .low } } ∧
    exec .riseOfTripN s = .next { s with pins := { s.pins with tripN := .high } }

/-- Power-on and both edges of RESET_N leave every block at its reset values, whatever the part held, and the levels of the selects as they are; at
the release, and at the end of the power-on reset with RESET_N high, the first samples are due at the count 0, and while RESET_N is low none is.
`State.reset` is such a state with its samples due, with the straps and pins the model names (the inputs LOW; TRIP_N, RESET_N and the selects HIGH),
the attention lines released and an empty queue (R10, R43, R86, R109, R127, R145, R158, R168, R175, R186; log 11, log 12). The model's choices here are
also that before the first sample the inputs' levels stand LOW and the last sample of TRIP_N HIGH (log 10), that every block is reset already at the
assertion (log 13), that power-on is one step that keeps the pins (log 14), that a release with RESET_N already HIGH changes nothing (log 3), and that
an IDLE generator's period start and length stand at 0 (log 22). -/
def Obligations.ResetsLeaveEveryBlockAtItsResetValues : Prop :=
  let unsampled (t : State) : Prop :=
    t.sampled = false ∧ (∀ i, (t.input i).raw = .low ∧ (t.input i).filtered = .low) ∧ t.trip.lastSample = .high
  let firstTick (t : State) (due : Bool) : Prop := t.inputSampleDue = due ∧ t.tripSampleDue = due
  let resets (s t : State) : Prop := BlocksReset t ∧ unsampled t ∧ ∀ p, (t.spi p).select = (s.spi p).select
  ((∀ (s : State) (st : Straps), ∃ t, exec (.powerOn st) s = .next t ∧ resets s t ∧ t.pins = s.pins ∧
    (s.pins.resetN = .high → firstTick t true) ∧ (s.pins.resetN = .low → firstTick t false)) ∧
  (∀ s : State, ∃ t, exec .resetNAsserted s = .next t ∧ resets s t ∧ t.pins = { s.pins with resetN := .low } ∧ firstTick t false) ∧
  (∀ (s : State) (st : Straps), s.pins.resetN = .low → ∃ t, exec (.resetNReleased st) s = .next t ∧ resets s t ∧
    t.pins = { s.pins with resetN := .high } ∧ firstTick t true) ∧
  ∀ (s : State) (st : Straps), s.pins.resetN = .high → exec (.resetNReleased st) s = .next s) ∧
  BlocksReset State.reset ∧ unsampled State.reset ∧ firstTick State.reset true ∧ StrapsInForce State.reset Config.resetStraps ∧
    State.reset.pending = [] ∧ State.reset.pins = { inputs := 0, tripN := .high, resetN := .high } ∧
    (∀ p, State.reset.spi p = { receive := .idle, select := .high }) ∧ ∀ m, State.reset.attention m = false

/-- RESET_DEVICE from the configuring port resets every block but the timebase, discards the other ports' responses, clears every port
counter and leaves its OK response; a response in the middle of being sent goes on being sent but is no longer held (R11, R43, R61, R87, R109,
R128, R146, R158, R168, R183, R184). -/
def Obligations.ResetDeviceResetsAllButTheTimebase : Prop :=
  ∀ (s t : State) (m : Master) (tag : Byte), TakenIn s m t → t.configPort = some m → t.session m ≠ .lapsed →
    ∃ u, exec (.resetDevice m tag []) s = .next u ∧
      u = { t with
            timed := [], armed := [], lastTicket := 0, quotas := u.quotas, lines := u.lines, gens := u.gens, inputs := u.inputs
            captures := u.captures, sessions := u.sessions, notices := u.notices
            trip := { state := .normal, count := 0, timestamp := 0, lastSample := t.trip.lastSample }
            ports := u.ports, stallTimeouts := 0 } ∧
      (∀ x, u.quota x = 32 ∧ u.session x = .closed ∧ u.noticeQueue x = { queue := [], lost := 0 } ∧
        u.capture x = { subscription := 0, watermark := 1, queue := [], lost := 0, gapPending := false }) ∧
      (∀ l, u.line l = { owner := none, mode := .static, level := .low, safe := .low, waits := [] } ∧ u.gen l = Generator.idle) ∧
      (∀ i, u.input i = { select := .none, filterLength := 0, raw := (t.input i).raw, filtered := (t.input i).raw, filter := .stable
                          sequence := 0 }) ∧
      ∀ x, u.port x =
        { t.port x with
          response := if x = m then some { status := .ok, tag := tag, code := 0x7F, notices := false, captures := false, tripped := false
                                           resent := false, payload := [] } else none
          sending := (t.port x).sending.map fun y => { y with holds := false }
          aborts := 0, crcErrors := 0, collisions := 0 }

/-! ### Ports and frames -/

/-- A response is built whole at the taking: the status, the echoed tag and code, the flags from the state after the command, RESENT clear;
it becomes the pending response of its port and touches nothing else. Its bytes are the result code, the tag, the code, the flags and the length,
then the payload, then the CRC of all before it, so that the remainder over a whole response is 0. The CRC starts at 0x00 and takes each byte by an
exclusive-or and eight shifts with the polynomial 0x07; the two examples of R187. The codes of the commands, masters, levels and edge selects are those
of their rules and tables, and a field of several bytes stands most significant byte first (R171, R172, R181, R187; chapter 11). -/
def Obligations.ResponseIsBuiltAtTheTaking : Prop :=
  ((∀ (s : State) (m : Master) (tag code : Byte) (r : Reply),
    s.respond m tag code r = { s with ports := (s.respond m tag code r).ports } ∧
    (∀ x, x ≠ m → (s.respond m tag code r).port x = s.port x) ∧
    (s.respond m tag code r).port m =
      { s.port m with
        response := some { status := r.status, tag := tag, code := code, notices := decide ((s.noticeQueue m).queue ≠ [])
                           captures := decide ((s.capture m).queue ≠ []), tripped := decide (s.trip.state = .tripped), resent := false
                           payload := r.payload } }) ∧
  ∀ r : Response, ∃ body : List Byte, r.bytes = body ++ [crc8 body] ∧
    body = [(match r.status with
             | .idle => 0x00 | .ok => 0x01 | .queued => 0x04 | .already => 0x05 | .badCrc => 0x10 | .badLength => 0x11
             | .unknownCommand => 0x12 | .range => 0x13 | .form => 0x14 | .noSession => 0x20 | .lapsed => 0x21 | .notConfig => 0x22
             | .notOwner => 0x30 | .owned => 0x31 | .notFound => 0x32 | .notYours => 0x33 | .full => 0x34 | .quota => 0x35
             | .late => 0x36 | .neverFires => 0x37 | .tripActive => 0x38), r.tag, r.code,
            (if r.notices then 1 else 0) ||| (if r.captures then 2 else 0) ||| (if r.tripped then 4 else 0) ||| (if r.resent then 8 else 0),
            BitVec.ofNat 8 r.payload.length] ++ r.payload) ∧
  (crc8 [] = 0 ∧ (∀ (bs : List Byte) (b : Byte),
      crc8 (bs ++ [b]) = (fun r : Byte => if r.getLsbD 7 then (r <<< 1) ^^^ 0x07 else r <<< 1)^[8] (crc8 bs ^^^ b)) ∧
    crc8 [0x00, 0x00, 0x00] = 0x00 ∧ crc8 [0x00, 0x01, 0x00] = 0x15 ∧ ∀ r : Response, crc8 r.bytes = 0) ∧
  (∀ c : Command, c.code = match c with
    | .nop => 0x00 | .time => 0x01 | .status => 0x02 | .openSession => 0x10 | .renew => 0x11 | .close => 0x12 | .claim => 0x20
    | .release => 0x21 | .queryLine => 0x22 | .post => 0x30 | .cancel => 0x31 | .cancelLine => 0x32 | .queryEntry => 0x33
    | .subscribe => 0x40 | .readCaptures => 0x41 | .readInputs => 0x42 | .readNotices => 0x50 | .clearTrip => 0x60 | .setQuota => 0x70
    | .setSafe => 0x71 | .setInput => 0x72 | .resetDevice => 0x7F) ∧
  (∀ o : Option Master, ownerCode o = match o with | none => 0 | some .a => 1 | some .b => 2 | some .c => 3) ∧
  (∀ m : Master, masterCode m = match m with | .a => 1 | .b => 2 | .c => 3) ∧
  (∀ v : Level, levelCode v = match v with | .low => 0 | .high => 1) ∧
  (∀ k : EdgeSelect, edgeSelectCode k = match k with | .none => 0 | .rise => 1 | .fall => 2 | .both => 3) ∧
  (∀ n : Nat, countByte n = BitVec.ofNat 8 n) ∧
  (∀ x : BitVec 16, bytes16 x = [BitVec.ofNat 8 (x.toNat / 256), BitVec.ofNat 8 x.toNat]) ∧
  (∀ x : BitVec 24, bytes24 x = [BitVec.ofNat 8 (x.toNat / 65536), BitVec.ofNat 8 (x.toNat / 256), BitVec.ofNat 8 x.toNat]) ∧
  ∀ x : Word, bytes32 x =
    [BitVec.ofNat 8 (x.toNat / 16777216), BitVec.ofNat 8 (x.toNat / 65536), BitVec.ofNat 8 (x.toNat / 256), BitVec.ofNat 8 x.toNat]

/-- NOP, code 0x00, answers OK with no payload from every port in every session state, with the flags as they stand, and changes no state of
any block (R182). -/
def Obligations.NopAnswersOkAndChangesNothing : Prop :=
  ∀ (s t : State) (m : Master) (tag : Byte), TakenIn s m t →
    exec (.nop m tag []) s = .next (t.setPort m { t.port m with
      response := some { status := .ok, tag := tag, code := 0x00, notices := decide ((t.noticeQueue m).queue ≠ [])
                         captures := decide ((t.capture m).queue ≠ []), tripped := decide (t.trip.state = .tripped), resent := false
                         payload := [] } })

/-- A command whose payload length differs from its fixed length is answered BAD_LENGTH and changes no state of any block (R181). -/
def Obligations.WrongLengthIsRefused : Prop :=
  ∀ (s t : State) (m : Master) (tag : Byte) (p : List Byte) (c : Command) (n : Nat), TakenIn s m t →
    (c, n) ∈ [(Command.nop, 0), (.time, 0), (.status, 0), (.renew, 0), (.close, 0), (.readInputs, 0), (.clearTrip, 0), (.resetDevice, 0),
              (.release, 1), (.queryLine, 1), (.cancelLine, 1), (.readCaptures, 1), (.readNotices, 1),
              (.openSession, 2), (.claim, 2), (.cancel, 2), (.queryEntry, 2), (.subscribe, 2), (.setQuota, 2), (.setSafe, 2), (.setInput, 3)] →
    p.length ≠ n → exec (commandRow c m tag p) s = .next (t.respond m tag c.code ⟨.badLength, []⟩)

/-- A configuration command from a port that is not the configuring port is answered NOT_CONFIG in every session state: the four always, and
CLEAR_TRIP when a configuring port is designated. A command that needs an ACTIVE session is answered NO_SESSION from a CLOSED master and LAPSED
from a LAPSED one; a configuration command of the configuring port is answered LAPSED from a LAPSED one (R139, R164, R181). -/
def Obligations.ConfigurationAndSessionRefusals : Prop :=
  ((∀ (s t : State) (m : Master) (tag : Byte) (p : List Byte) (c : Command) (n : Nat), TakenIn s m t →
    (c, n) ∈ [(Command.setQuota, 2), (.setSafe, 2), (.setInput, 3), (.resetDevice, 0)] → p.length = n → t.configPort ≠ some m →
    exec (commandRow c m tag p) s = .next (t.respond m tag c.code ⟨.notConfig, []⟩)) ∧
  ∀ (s t : State) (m x : Master) (tag : Byte), TakenIn s m t → t.configPort = some x → x ≠ m →
    exec (.clearTrip m tag []) s = .next (t.respond m tag 0x60 ⟨.notConfig, []⟩)) ∧
  (∀ (s t : State) (m : Master) (tag : Byte) (p : List Byte) (c : Command), TakenIn s m t →
    (c, p.length) ∈ [(Command.renew, 0), (.close, 0), (.claim, 2), (.release, 1), (.cancel, 2), (.cancelLine, 1), (.queryEntry, 2),
                     (.subscribe, 2), (.readCaptures, 1)] ∨ c = .post ∨ (c = .clearTrip ∧ p = [] ∧ t.configPort = none) →
    (t.session m = .closed →
      exec (commandRow c m tag p) s = .next (t.respond m tag c.code ⟨.noSession, []⟩)) ∧
    (t.session m = .lapsed →
      exec (commandRow c m tag p) s = .next (t.respond m tag c.code ⟨.lapsed, []⟩))) ∧
  ∀ (s t : State) (m : Master) (tag : Byte) (p : List Byte) (c : Command), TakenIn s m t →
    (c, p.length) ∈ [(Command.setQuota, 2), (.setSafe, 2), (.setInput, 3), (.resetDevice, 0), (.clearTrip, 0)] → t.configPort = some m →
    t.session m = .lapsed → exec (commandRow c m tag p) s = .next (t.respond m tag c.code ⟨.lapsed, []⟩)

/-- A complete frame that finds an undelivered response is not taken: the collision count rises, saturating at 255, RESENT is set in the
response that waits, and nothing else changes (R172). -/
def Obligations.CollisionKeepsTheResponseAndSetsResent : Prop :=
  ∀ (s : State) (m : Master) (tag : Byte) (p : List Byte) (c : Command) (r : Response), s.pins.resetN = .high →
    (s.settle.port m).response = some r →
    exec (commandRow c m tag p) s = .next (s.settle.setPort m { s.settle.port m with
      response := some { r with resent := true }
      collisions := if (s.settle.port m).collisions = 255 then 255 else (s.settle.port m).collisions + 1 })

/-- A falling select opens a frame: IN_FRAME, both byte counts 0, and what is sent is fixed to the pending response, or to an IDLE response with
the flags as they stand. A select that is low without a frame, as after a reset, ends no frame at its rise: 0xFF was sent, and nothing is counted,
delivered or taken. While RESET_N is low a falling select opens no frame (R171, R173, R175, R185). What was sent stands in `wire` (log 8). -/
def Obligations.SpiFrameStartFixesWhatIsSent : Prop :=
  (∀ (s : State) (p : SpiPort), s.pins.resetN = .high → (s.spi p).select = .high →
    ∃ x : Sending,
      (∀ r, (s.settle.port (portMaster p)).response = some r → x.bytes = r.bytes ∧ x.holds = true) ∧
      ((s.settle.port (portMaster p)).response = none → x.holds = false ∧ ∃ flags : Byte,
        x.bytes = [0, 0, 0, flags, 0] ++ [crc8 [0, 0, 0, flags, 0]] ∧
        flags = (if (s.settle.noticeQueue (portMaster p)).queue = [] then 0 else 1) |||
          (if (s.settle.capture (portMaster p)).queue = [] then 0 else 2) ||| (if s.settle.trip.state = .tripped then 4 else 0)) ∧
      exec (.spiFrameStart p) s = .next ((s.settle.setSpi p { receive := .inFrame, select := .low }).setPort (portMaster p)
        { s.settle.port (portMaster p) with sending := some x, bytesReceived := 0, bytesSent := 0, wire := [] })) ∧
  (∀ (s : State) (p : SpiPort) (bytes : List Byte), s.spi p = { receive := .idle, select := .low } →
    exec (.spiFrameEnd p bytes) s =
      .next ((s.setPort (portMaster p) { s.port (portMaster p) with wire := List.replicate bytes.length 0xFF }).setSpi p
        { receive := .idle, select := .high })) ∧
  ∀ (s : State) (p : SpiPort), s.pins.resetN = .low → s.spi p = { receive := .idle, select := .high } →
    exec (.spiFrameStart p) s = .next (s.setSpi p { receive := .idle, select := .low })

/-- A frame of fewer than three bytes changes no state of its port but the receive state and the byte counts; one ended before its command is
complete raises the abort count and still delivers the response it sent in full (R172, R174). The bytes come with the end of the frame (log 8). -/
def Obligations.ShortSpiFrameTakesNothing : Prop :=
  ∀ (s : State) (p : SpiPort) (bytes : List Byte) (x : Sending), s.pins.resetN = .high →
    s.spi p = { receive := .inFrame, select := .low } → (s.settle.port (portMaster p)).sending = some x →
    let q := s.settle.port (portMaster p)
    let sent : PortRecord :=
      { q with
        bytesReceived := bytes.length, bytesSent := bytes.length, sending := none
        wire := x.bytes.take bytes.length ++ List.replicate (bytes.length - x.bytes.length) 0xFF
        response := if x.holds = true ∧ x.bytes.length ≤ bytes.length then none else q.response }
    (bytes.length < 3 →
      exec (.spiFrameEnd p bytes) s = .next ((s.settle.setPort (portMaster p) sent).setSpi p { receive := .idle, select := .high })) ∧
    (3 ≤ bytes.length → bytes.length < 4 + (byteAt bytes 2).toNat →
      exec (.spiFrameEnd p bytes) s =
        .next ((s.settle.setPort (portMaster p) { sent with aborts := if q.aborts = 255 then 255 else q.aborts + 1 }).setSpi p
          { receive := .idle, select := .high }))

/-- A complete frame with a good CRC is its command: the end of the frame delivers the response that was sent in full, and then does what the
command's own row does at that port (R170, R172, R174, R181). The bytes come with the end of the frame (log 7, log 8). -/
def Obligations.CompleteSpiFrameIsItsCommand : Prop :=
  ∀ (s : State) (p : SpiPort) (c : Command) (tag : Byte) (payload extra : List Byte) (x : Sending), s.pins.resetN = .high →
    Quiet s.settle → s.spi p = { receive := .inFrame, select := .low } → (s.settle.port (portMaster p)).sending = some x →
    payload.length ≤ 255 →
    let q := s.settle.port (portMaster p)
    let head := [c.code, tag, BitVec.ofNat 8 payload.length] ++ payload
    let bytes := head ++ [crc8 head] ++ extra
    let sent : PortRecord :=
      { q with
        bytesReceived := bytes.length, bytesSent := bytes.length
        wire := x.bytes.take bytes.length ++ List.replicate (bytes.length - x.bytes.length) 0xFF
        sending := some { x with holds := decide (x.holds = true ∧ bytes.length < x.bytes.length) }
        response := if x.holds = true ∧ x.bytes.length ≤ bytes.length then none else q.response }
    ∃ u, exec (commandRow c (portMaster p) tag payload) (s.settle.setPort (portMaster p) sent) = .next u ∧
      exec (.spiFrameEnd p bytes) s =
        .next ((u.setPort (portMaster p) { u.port (portMaster p) with sending := none }).setSpi p { receive := .idle, select := .high })

/-- The answers of a frame with a bad CRC and of a frame with an unknown code, at the end of a write at port C and of an SPI frame at port A or B,
where the delivery of the response sent in full comes first: with no response held, the CRC error count rises and BAD_CRC is answered with the tag and
code as received, or UNKNOWN_COMMAND is answered; with one held, RESENT is set and the collision count rises, and the CRC error count too when the CRC
is bad (R172, R174, R177, R181). The bytes come with the end of the frame or write (log 8). -/
def Obligations.BadCrcAndUnknownCodeAreAnswered : Prop :=
  ∀ (s : State) (code tag crc : Byte) (payload extra : List Byte), s.pins.resetN = .high → payload.length ≤ 255 →
    let head := [code, tag, BitVec.ofNat 8 payload.length] ++ payload
    let bytes := head ++ [crc] ++ extra
    let up (b : Byte) : Byte := if b = 255 then 255 else b + 1
    let answer (m : Master) (status : Result) : Response :=
      { status := status, tag := tag, code := code, notices := decide ((s.settle.noticeQueue m).queue ≠ [])
        captures := decide ((s.settle.capture m).queue ≠ []), tripped := decide (s.settle.trip.state = .tripped), resent := false
        payload := [] }
    let answered (m : Master) (q : PortRecord) (ends : PortRecord → Prop) : Prop :=
      (crc ≠ crc8 head → q.response = none → ends { q with crcErrors := up q.crcErrors, response := some (answer m .badCrc) }) ∧
      (crc ≠ crc8 head → ∀ r, q.response = some r →
        ends { q with crcErrors := up q.crcErrors, collisions := up q.collisions, response := some { r with resent := true } }) ∧
      (crc = crc8 head → (∀ c : Command, c.code ≠ code) → q.response = none → ends { q with response := some (answer m .unknownCommand) }) ∧
      (crc = crc8 head → (∀ c : Command, c.code ≠ code) → ∀ r, q.response = some r →
        ends { q with collisions := up q.collisions, response := some { r with resent := true } })
    (s.i2c = .write → answered .c { s.settle.port .c with bytesReceived := bytes.length } fun r =>
      exec (.i2cWriteEnd bytes) s = .next ((s.settle.setPort .c r).setI2c .idle)) ∧
    ∀ (p : SpiPort) (x : Sending), s.spi p = { receive := .inFrame, select := .low } → (s.settle.port (portMaster p)).sending = some x →
      let q := s.settle.port (portMaster p)
      answered (portMaster p)
        { q with
          bytesReceived := bytes.length, bytesSent := bytes.length, sending := none
          wire := x.bytes.take bytes.length ++ List.replicate (bytes.length - x.bytes.length) 0xFF
          response := if x.holds = true ∧ x.bytes.length ≤ bytes.length then none else q.response } fun r =>
        exec (.spiFrameEnd p bytes) s = .next ((s.settle.setPort (portMaster p) r).setSpi p { receive := .idle, select := .high })

/-- The part's own address puts port C into WRITE or READ with both byte counts 0, a read fixing the pending response or an IDLE response to be
sent, its flags as they stand; any other address puts it into NOT_ADDRESSED (R171, R176, R178). That an address byte which comes in a write or a read
not yet ended drops that transaction uncounted is the model's choice (log 9). -/
def Obligations.I2cAddressSelectsWriteOrRead : Prop :=
  (∀ s : State, s.pins.resetN = .high →
    exec (.i2cAddress s.settle.i2cAddress false) s =
      .next ((s.settle.setPort .c { s.settle.port .c with sending := none, bytesReceived := 0, bytesSent := 0, wire := [] }).setI2c .write)) ∧
  (∀ s : State, s.pins.resetN = .high → ∃ x : Sending,
    (∀ r, (s.settle.port .c).response = some r → x.bytes = r.bytes ∧ x.holds = true) ∧
    ((s.settle.port .c).response = none → x.holds = false ∧ ∃ flags : Byte,
      x.bytes = [0, 0, 0, flags, 0] ++ [crc8 [0, 0, 0, flags, 0]] ∧
      flags = (if (s.settle.noticeQueue .c).queue = [] then 0 else 1) ||| (if (s.settle.capture .c).queue = [] then 0 else 2) |||
        (if s.settle.trip.state = .tripped then 4 else 0)) ∧
    exec (.i2cAddress s.settle.i2cAddress true) s =
      .next ((s.settle.setPort .c { s.settle.port .c with sending := some x, bytesReceived := 0, bytesSent := 0, wire := [] }).setI2c .read)) ∧
  ∀ (s : State) (a : BitVec 7) (read : Bool), s.pins.resetN = .high → a ≠ s.settle.i2cAddress →
    exec (.i2cAddress a read) s =
      .next ((s.settle.setPort .c { s.settle.port .c with sending := none }).setI2c .notAddressed)

/-- The end of a write: no bytes count for nothing, a write that never completed its frame raises the abort count, and a complete frame with a
good CRC is its command at port C (R177). The bytes come with the end of the write (log 7, log 8). -/
def Obligations.I2cWriteEndClassesTheBytes : Prop :=
  ∀ (s : State) (bytes : List Byte), s.pins.resetN = .high → s.i2c = .write →
    let q : PortRecord := { s.settle.port .c with bytesReceived := bytes.length }
    (bytes = [] → exec (.i2cWriteEnd bytes) s = .next ((s.settle.setPort .c q).setI2c .idle)) ∧
    ((bytes.length = 1 ∨ bytes.length = 2 ∨ (3 ≤ bytes.length ∧ bytes.length < 4 + (byteAt bytes 2).toNat)) →
      exec (.i2cWriteEnd bytes) s =
        .next ((s.settle.setPort .c { q with aborts := if q.aborts = 255 then 255 else q.aborts + 1 }).setI2c .idle)) ∧
    ∀ (c : Command) (tag : Byte) (payload extra : List Byte), Quiet s.settle → payload.length ≤ 255 →
      bytes = [c.code, tag, BitVec.ofNat 8 payload.length] ++ payload ++ [crc8 ([c.code, tag, BitVec.ofNat 8 payload.length] ++ payload)] ++ extra →
      ∃ u, exec (commandRow c .c tag payload) (s.settle.setPort .c q) = .next u ∧ exec (.i2cWriteEnd bytes) s = .next (u.setI2c .idle)

/-- In a read the pending response is delivered when its last byte is counted as sent, and only then; a read that ends sooner, by STOP,
repeated START or the stall limit, leaves it pending and unchanged. The stall limit raises its own count alone; in WRITE it discards the bytes
received and takes no command; outside an addressed transaction there is none. A STOP while NOT_ADDRESSED returns the port to IDLE, and in IDLE it
ends nothing (R176, R178, R179). That the end of a read and the stall limit carry the bytes sent, take the greater of these and those already counted,
and deliver when these are the whole response, is the model's choice (log 21); what was sent stands in `wire` (log 8). -/
def Obligations.I2cReadsStallsAndStops : Prop :=
  (∀ (s : State) (x : Sending) (n : Nat), s.pins.resetN = .high → s.i2c = .read → (s.port .c).sending = some x →
    let q := s.port .c
    let k := max n q.bytesSent
    let sent (k : Nat) : PortRecord :=
      { q with
        bytesSent := k, wire := x.bytes.take k ++ List.replicate (k - x.bytes.length) 0xFF
        response := if x.holds = true ∧ x.bytes.length ≤ k then none else q.response }
    (q.bytesSent ≤ x.bytes.length →
      exec .i2cResponseDelivered s = .next (s.setPort .c { sent x.bytes.length with sending := some { x with holds := false } })) ∧
    exec (.i2cReadEnd n) s = .next ((s.setPort .c { sent k with sending := none }).setI2c .idle) ∧
    exec (.stallTimeout n) s =
      .next { (s.setPort .c { sent k with sending := none }).setI2c .idle with
              stallTimeouts := if s.stallTimeouts = 255 then 255 else s.stallTimeouts + 1 }) ∧
  (∀ (s : State) (n : Nat), s.pins.resetN = .high → s.i2c = .write →
    exec (.stallTimeout n) s =
      .next { (s.setPort .c { s.port .c with bytesReceived := 0 }).setI2c .idle with
              stallTimeouts := if s.stallTimeouts = 255 then 255 else s.stallTimeouts + 1 }) ∧
  (∀ (s : State) (n : Nat), s.i2c = .idle ∨ s.i2c = .notAddressed → exec (.stallTimeout n) s = .next s) ∧
  (∀ s : State, s.pins.resetN = .high → s.i2c = .notAddressed → exec .stopWhileNotAddressed s = .next { s with i2c := .idle }) ∧
  ∀ s : State, s.i2c = .idle → exec .stopWhileNotAddressed s = .next s

/-! ### Sessions -/

/-- TIME, code 0x01, answers the count at the taking and the tick unit, from every port in every session state, and changes no block; with a
payload that is not empty it is answered BAD_LENGTH (R9). -/
def Obligations.TimeAnswersTheCount : Prop :=
  ∀ (s t : State) (m : Master) (tag : Byte), TakenIn s m t →
    exec (.time m tag []) s = .next (t.respond m tag 0x01 ⟨.ok, [t.count.extractLsb' 24 8, t.count.extractLsb' 16 8, t.count.extractLsb' 8 8,
      t.count.extractLsb' 0 8, t.tickUnit.setWidth 8]⟩) ∧
    ∀ p : List Byte, p ≠ [] → exec (.time m tag p) s = .next (t.respond m tag 0x01 ⟨.badLength, []⟩)

/-- STATUS answers the requester's standing, the trip record, the port's counters, the configuring port and the tick unit, and changes no
block (R141). -/
def Obligations.StatusAnswersTheStanding : Prop :=
  ∀ (s t : State) (m : Master) (tag : Byte), TakenIn s m t →
    exec (.status m tag []) s = .next (t.respond m tag 0x02 ⟨.ok, [(match t.session m with | .closed => 0#8 | .active _ _ => 1#8 | .lapsed => 2#8)] ++
      bytes32 (match t.session m with | .closed => 0 | .active _ deadline => deadline - t.count | .lapsed => 0) ++
      [countByte (t.quota m),
       countByte ((t.timed.filter fun e => decide (e.core.poster = m)).length + (t.armed.filter fun e => decide (e.core.poster = m)).length),
       countByte (64 - (t.timed.length + t.armed.length)),
       countByte (t.noticeQueue m).queue.length, (t.noticeQueue m).lost, countByte (t.capture m).queue.length, (t.capture m).lost,
       (match t.trip.state with | .normal => 0 | .tripped => 1), t.trip.count] ++ bytes32 t.trip.timestamp ++
      [(t.port m).aborts, (t.port m).crcErrors, (t.port m).collisions, (if m = .c then t.stallTimeouts else 0),
       (match t.configPort with | none => 0 | some .a => 1 | some .b => 2 | some .c => 3), t.tickUnit.setWidth 8]⟩)

/-- OPEN by the table of R131, its answer by R132: the period is the milliseconds times the ticks per ms, the deadline the count plus the
period; from LAPSED the notice queue is emptied first. RENEW sets the deadline to the count plus the period in force, keeps the period and answers
both (R7, R131, R132, R133). -/
def Obligations.OpenAndRenewSetTheLease : Prop :=
  (∀ (s t : State) (m : Master) (tag : Byte) (ms : BitVec 16) (period : Word), TakenIn s m t → 10 ≤ ms.toNat → ms.toNat ≤ 60000 →
    period.toNat = ms.toNat * (if t.tickUnit = 0 then 2000 else if t.tickUnit = 1 then 1000 else if t.tickUnit = 2 then 100 else 10) →
    let lease : State := t.setSession m (.active period (t.count + period))
    let answer (previous : Byte) : List Byte := [previous] ++ bytes32 period ++ bytes32 (t.count + period)
    (t.session m = .closed →
      exec (.openSession m tag (bytes16 ms)) s = .next (lease.respond m tag 0x10 ⟨.ok, answer 0⟩)) ∧
    (∀ q d, t.session m = .active q d →
      exec (.openSession m tag (bytes16 ms)) s = .next (lease.respond m tag 0x10 ⟨.already, answer 1⟩)) ∧
    (t.session m = .lapsed →
      exec (.openSession m tag (bytes16 ms)) s =
        .next ((lease.setNotices m { queue := [], lost := 0 }).respond m tag 0x10 ⟨.ok, answer 2⟩))) ∧
  ∀ (s t : State) (m : Master) (tag : Byte) (period deadline : Word), TakenIn s m t → t.session m = .active period deadline →
    exec (.renew m tag []) s = .next ((t.setSession m (.active period (t.count + period))).respond m tag 0x11
      ⟨.ok, bytes32 period ++ bytes32 (t.count + period)⟩)

/-- What the purge of master `m` in state `t` leaves in `u`, with the code of `cause` (1 RELEASED, 2 LAPSED, 3 CLOSED) in its GRANTED notices: no
entry, no wait, no line and no capture state of `m`; its lines at rest at their safe levels with their oldest other waiters or none; the other masters'
notices in line order; everything else as it was but sessions, `m`'s own notices and the ports (R74, R75, R76, R126, R138). -/
def Obligations.PurgeTakesBackEverything : Prop :=
  ∀ (t : State) (m : Master) (cause : ReturnCause),
    let u := t.purge m cause
    u = { t with timed := t.timed.filter (fun e => decide (e.core.poster ≠ m)), armed := t.armed.filter (fun e => decide (e.core.poster ≠ m))
                 lines := u.lines, gens := u.gens, captures := u.captures, notices := u.notices } ∧
    (∀ l, u.line l =
      (let waits := (t.line l).waits.filter fun w => decide (w ≠ m)
       if (t.line l).owner = some m then
         { owner := waits.head?, mode := .static, level := (t.line l).safe, safe := (t.line l).safe, waits := waits.tail }
       else { t.line l with waits := waits })) ∧
    (∀ l, u.gen l = if (t.line l).owner = some m then Generator.idle else t.gen l) ∧
    u.capture m = { subscription := 0, watermark := 1, queue := [], lost := 0, gapPending := false } ∧
    (∀ x, x ≠ m → u.capture x = t.capture x) ∧
    ∀ x, u.noticeQueue x =
      if t.isActive x then
        (allLines.filter fun l => decide ((t.line l).owner = some m ∧ ((t.line l).waits.filter fun w => decide (w ≠ m)).head? = some x)).foldl
          (fun q l => q.store
            { kind := .granted, ticket := 0, line := some l, timestamp := t.count
              detail := match cause with | .released => 1 | .lapsed => 2 | .closed => 3 })
          (t.noticeQueue x)
      else t.noticeQueue x

/-- CLOSE purges the master with the cause CLOSED, empties its notice queue, makes its session CLOSED and answers how many entries and lines it
gave up. At its lease deadline a session lapses: the purge with the cause LAPSED, the queue emptied and the LAPSED notice stored with the number of
lines returned, PEER_LAPSED to every other ACTIVE master after any GRANTED, and the session LAPSED (R134, R135, R136, R137). -/
def Obligations.CloseAndLapsePurgeTheMaster : Prop :=
  (∀ (s t : State) (m : Master) (tag : Byte), TakenIn s m t → t.isActive m = true →
    exec (.close m tag []) s =
      .next ((((t.purge m .closed).setNotices m { queue := [], lost := 0 }).setSession m .closed).respond m tag 0x12
        ⟨.ok, [countByte (t.held m),
            countByte (allLines.filter fun l => decide ((t.line l).owner = some m)).length]⟩)) ∧
  ∀ (s : State) (m : Master) (period : Word), s.pins.resetN = .high → s.session m = .active period s.count →
    ∃ u, exec (.lapse m) s = .next u ∧ u = { s.purge m .lapsed with sessions := s.sessions.set m .lapsed, notices := u.notices } ∧
      u.noticeQueue m =
        { queue := [{ kind := .lapsed, ticket := 0, line := none, timestamp := s.count
                      detail := countByte (allLines.filter fun l => decide ((s.line l).owner = some m)).length }], lost := 0 } ∧
      ∀ x, x ≠ m → u.noticeQueue x =
        if s.isActive x then
          ((s.purge m .lapsed).noticeQueue x).store
            { kind := .peerLapsed, ticket := 0, line := none, detail := masterCode m, timestamp := s.count }
        else (s.purge m .lapsed).noticeQueue x

/-! ### Lines -/

/-- CLAIM by the six rows of R68, its answer by R69: a grant changes the owner field only, a wait joins the end of the wait list, and every other
row changes no line (R67, R68, R69). -/
def Obligations.ClaimFollowsItsTable : Prop :=
  ∀ (s t : State) (m : Master) (tag wait : Byte) (l : Fin 16), TakenIn s m t → t.isActive m = true → wait = 0 ∨ wait = 1 →
    let row := exec (.claim m tag [countByte l.val, wait]) s
    let waits := (t.line l).waits
    ((t.line l).owner = none → row = .next ((t.setLine l { t.line l with owner := some m }).respond m tag 0x20
      ⟨.ok, [countByte l.val, masterCode m, if m ∈ waits then countByte (waits.idxOf m + 1) else 0]⟩)) ∧
    ((t.line l).owner = some m → row = .next (t.respond m tag 0x20
      ⟨.already, [countByte l.val, masterCode m, if m ∈ waits then countByte (waits.idxOf m + 1) else 0]⟩)) ∧
    ∀ o, o ≠ m → (t.line l).owner = some o →
      (m ∉ waits → wait = 0 →
        row = .next (t.respond m tag 0x20 ⟨.owned, [countByte l.val, masterCode o, 0]⟩)) ∧
      (m ∈ waits → wait = 0 →
        row = .next (t.respond m tag 0x20 ⟨.owned, [countByte l.val, masterCode o, countByte (waits.idxOf m + 1)]⟩)) ∧
      (m ∉ waits → wait = 1 →
        row = .next ((t.setLine l { t.line l with waits := waits ++ [m] }).respond m tag 0x20
          ⟨.queued, [countByte l.val, masterCode o, countByte (waits.length + 1)]⟩)) ∧
      (m ∈ waits → wait = 1 →
        row = .next (t.respond m tag 0x20 ⟨.queued, [countByte l.val, masterCode o, countByte (waits.idxOf m + 1)]⟩))

/-- RELEASE by the owner removes its entries for the line and returns the line: at rest at its safe level, its generator IDLE, handed to the
oldest waiter with a GRANTED notice or left unowned; the answer gives the number removed and the owner after. By a waiter it withdraws the wait and
touches nothing else; from a master that is neither it is answered NOT_OWNER and changes nothing (R70, R71, R72, R73, R74, R75). -/
def Obligations.ReleaseReturnsTheLineOrWithdrawsTheWait : Prop :=
  (∀ (s t : State) (m : Master) (tag : Byte) (l : Fin 16), TakenIn s m t → t.isActive m = true → (t.line l).owner = some m →
    let keep (e : EntryCore) : Bool := decide (¬ (e.poster = m ∧ e.line = l))
    let purged : State := { t with timed := t.timed.filter fun e => keep e.core, armed := t.armed.filter fun e => keep e.core }
    let removed := (t.timed.length + t.armed.length) - (purged.timed.length + purged.armed.length)
    let rested (owner : Option Master) (waits : List Master) : State :=
      (purged.setGen l Generator.idle).setLine l
        { owner := owner, mode := .static, level := (t.line l).safe, safe := (t.line l).safe, waits := waits }
    ((t.line l).waits = [] → exec (.release m tag [countByte l.val]) s =
      .next ((rested none []).respond m tag 0x21 ⟨.ok, [countByte removed, 0]⟩)) ∧
    ∀ x xs, (t.line l).waits = x :: xs → exec (.release m tag [countByte l.val]) s =
      .next (((rested (some x) xs).notify x { kind := .granted, ticket := 0, line := some l, detail := 1, timestamp := t.count }).respond m tag
        0x21 ⟨.ok, [countByte removed, masterCode x]⟩)) ∧
  ∀ (s t : State) (m : Master) (tag : Byte) (l : Fin 16), TakenIn s m t → t.isActive m = true → (t.line l).owner ≠ some m →
    (m ∈ (t.line l).waits → exec (.release m tag [countByte l.val]) s =
      .next ((t.setLine l { t.line l with waits := (t.line l).waits.filter fun w => decide (w ≠ m) }).respond m tag 0x21
        ⟨.ok, [0, ownerCode (t.line l).owner]⟩)) ∧
    (m ∉ (t.line l).waits → exec (.release m tag [countByte l.val]) s =
      .next (t.respond m tag 0x21 ⟨.notOwner, []⟩))

/-- QUERY_LINE describes the line and changes no block, from every port in every session state (R83). -/
def Obligations.QueryLineDescribesTheLine : Prop :=
  ∀ (s t : State) (m : Master) (tag : Byte) (l : Fin 16), TakenIn s m t →
    let r := t.line l
    let g := t.gen l
    let c := g.current.record
    exec (.queryLine m tag [countByte l.val]) s = .next (t.respond m tag 0x22 ⟨.ok, [countByte l.val,
       (if r.mode = .train then 1 else 0) ||| (if r.level = .high then 2 else 0) ||| (if r.safe = .high then 4 else 0) |||
         (match g.state with | .idle => 0 | .running => 8 | .stopping => 16) ||| (if g.staged = none then 0 else 32),
       ownerCode r.owner] ++ bytes16 c.period ++ bytes16 c.highTime ++ bytes16 c.pulses ++
      [c.fraction.setWidth 8 ||| (if c.rest = .high then 16 else 0) ||| (if c.endNotice then 32 else 0)] ++ bytes16 g.remaining ++
      [ownerCode r.waits[0]?, ownerCode r.waits[1]?,
       countByte ((t.timed.filter fun e => decide (e.core.line = l)).length + (t.armed.filter fun e => decide (e.core.line = l)).length)]⟩)

/-- A field out of its range is answered RANGE and changes no block: a lease below 10 ms or above 60,000 ms, a line above 15, a wait flag or level
above 1, a quota outside 1 to 64 or for no master, an input above 7, an edge select above 3, a watermark outside 1 to 16, a maximum count of 0 or too
great (R38, R41, R67, R70, R81, R83, R121, R122, R123, R131, R152). -/
def Obligations.OutOfRangeFieldIsRefused : Prop :=
  ∀ (s t : State) (m : Master) (tag a b c : Byte), TakenIn s m t →
    let refused (k : Command) (p : List Byte) : Prop :=
      exec (commandRow k m tag p) s = .next (t.respond m tag k.code ⟨.range, []⟩)
    ((∀ ms : BitVec 16, ms.toNat < 10 ∨ 60000 < ms.toNat → refused .openSession (bytes16 ms))) ∧
    (t.isActive m = true → (15 < a.toNat ∨ 1 < b.toNat) → refused .claim [a, b]) ∧
    (t.isActive m = true → 15 < a.toNat → refused .release [a] ∧ refused .cancelLine [a]) ∧
    (15 < a.toNat → refused .queryLine [a]) ∧
    (t.isActive m = true → (b = 0 ∨ 16 < b.toNat) → refused .subscribe [a, b]) ∧
    (t.isActive m = true → (a = 0 ∨ 5 < a.toNat) → refused .readCaptures [a]) ∧
    ((a = 0 ∨ 3 < a.toNat) → refused .readNotices [a]) ∧
    (t.configPort = some m → t.session m ≠ .lapsed →
      ((15 < a.toNat ∨ 1 < b.toNat) → refused .setSafe [a, b]) ∧
      ((a = 0 ∨ 3 < a.toNat ∨ b = 0 ∨ 64 < b.toNat) → refused .setQuota [a, b]) ∧
      ((7 < a.toNat ∨ 3 < b.toNat) → refused .setInput [a, b, c]))

/-- What an action does to its line: a drive or toggle cuts off any train and leaves the line STATIC at the driven or inverted level; TRAIN
starts a train on an IDLE generator with the accumulator at 0 and stages otherwise, cancelling a stop; TRAIN_STOP makes a RUNNING generator
STOPPING without a staged record and leaves any other as it is (R77, R78, R79, R95, R96, R97, R102). -/
def Obligations.ActionsActOnTheirLine : Prop :=
  ∀ (s : State) (l : Fin 16) (tk : Ticket) (r : TrainRecord),
    let g := s.gen l
    let job : TrainJob := { record := r, source := tk }
    let static (v : Level) : State := (s.setGen l Generator.idle).setLine l { s.line l with mode := .static, level := v }
    s.applyAction l .driveLow tk = static .low ∧ s.applyAction l .driveHigh tk = static .high ∧
    s.applyAction l .toggle tk = static (if (s.line l).level = .high then .low else .high) ∧
    (g.state = .idle → s.applyAction l (.train r) tk =
      (s.setGen l { state := .running, current := job, staged := none, accumulator := r.fraction, remaining := r.pulses
                    periodStart := s.count, periodLength := r.period.toNat }).setLine l
        { s.line l with mode := .train, level := if r.highTime = 0 then .low else .high }) ∧
    (g.state ≠ .idle → s.applyAction l (.train r) tk = s.setGen l { g with state := .running, staged := some job }) ∧
    (g.state = .running → s.applyAction l .trainStop tk = s.setGen l { g with state := .stopping, staged := none }) ∧
    (g.state ≠ .running → s.applyAction l .trainStop tk = s)

/-- The period end of a generator, by the table of R98: the end of a stopped train, the load of a staged record, a new period with the pulses
lowered, or the end of the count; a period is long, and the accumulator loses 16, when the addition of F reaches 16. The end of the high part sets the
line's level to LOW and changes nothing else (R90, R91, R93, R98, R99, R100, R101). -/
def Obligations.PeriodAndHighPartEndsFollowTheirTable : Prop :=
  (∀ (s : State) (l : Fin 16), s.pins.resetN = .high →
    let g := s.gen l
    let c := g.current
    s.count = g.periodStart + BitVec.ofNat 32 g.periodLength →
    let begins (j : TrainJob) (n : BitVec 16) : State :=
      (s.setGen l { g with
          current := j, staged := none, remaining := n, accumulator := g.accumulator + j.record.fraction, periodStart := s.count
          periodLength := if g.accumulator.toNat + j.record.fraction.toNat < 16 then j.record.period.toNat else j.record.period.toNat + 1 }).setLine l
        { s.line l with mode := .train, level := if j.record.highTime = 0 then .low else .high }
    let rested : State := (s.setGen l Generator.idle).setLine l { s.line l with mode := .static, level := c.record.rest }
    let ended (cause : Byte) : State :=
      match c.record.endNotice, (s.line l).owner with
      | true, some m => rested.notify m { kind := .trainEnd, ticket := c.source, line := some l, detail := cause, timestamp := s.count }
      | _, _ => rested
    (g.state = .stopping → exec (.periodEnd l) s = .next (ended 2)) ∧
    (g.state = .running →
      (∀ j, g.staged = some j → exec (.periodEnd l) s = .next (begins j j.record.pulses)) ∧
      (g.staged = none →
        (g.remaining = 0 → exec (.periodEnd l) s = .next (begins c 0)) ∧
        (2 ≤ g.remaining.toNat → exec (.periodEnd l) s = .next (begins c (g.remaining - 1))) ∧
        (g.remaining = 1 → exec (.periodEnd l) s = .next (ended 1))))) ∧
  ∀ (s : State) (l : Fin 16), s.pins.resetN = .high →
    let g := s.gen l
    g.state ≠ .idle → 0 < g.current.record.highTime.toNat → g.current.record.highTime.toNat < g.periodLength →
    s.count = g.periodStart + g.current.record.highTime.setWidth 32 →
    exec (.highPartEnd l) s = .next (s.setLine l { s.line l with level := .low })

/-- Any 16 consecutive periods of one record hold F long periods of P + 1 ticks and 16 − F of P ticks, and take 16 × P + F ticks, from any
accumulator. From the accumulator 0 the k-th period is long when k × F reaches or passes a multiple of 16 that (k − 1) × F had not reached (R92). -/
def Obligations.SixteenPeriodsCarryTheFraction : Prop :=
  ∀ (g : Generator) (t : Word),
    let p := g.current.record.period.toNat
    let f := g.current.record.fraction.toNat
    let length (k : Nat) : Nat := ((fun h => h.newPeriod t)^[k] g).periodLength
    let sixteen := (List.range 16).map fun k => length (k + 1)
    sixteen.count (p + 1) = f ∧ sixteen.count p = 16 - f ∧ sixteen.sum = 16 * p + f ∧
    (g.accumulator = 0 → ∀ k, 1 ≤ k →
      (length k = p + 1 ↔ ∃ n, (k - 1) * f < 16 * n ∧ 16 * n ≤ k * f) ∧ (length k ≠ p + 1 → length k = p))

/-! ### The calendar -/

/-- A POST payload is read by the layout of section 11.3: the line, the action and the flags, then each part that is present directly after the one
before it. A POST that fails a check is answered with the result of the first check it fails, in the order of R20 to R24, and changes no block (R20 to
R25, R46, R47, R188). -/
def Obligations.PostIsRefusedByItsFirstFailedCheck : Prop :=
  (∀ (line action flags trainByte triggerByte guardByte : Byte) (due deadline : Word) (period highTime pulses executions : BitVec 16)
      (delay interval : BitVec 24),
    let timed : Bool := !flags.getLsbD 0 && !flags.getLsbD 5
    let isTrain : Bool := decide (action = 3)
    let part (present : Bool) (bytes : List Byte) : List Byte := if present then bytes else []
    postFields ([line, action, flags] ++ part timed (bytes32 due)
        ++ part isTrain (bytes16 period ++ bytes16 highTime ++ bytes16 pulses ++ [trainByte])
        ++ part (flags.getLsbD 5) ([triggerByte] ++ bytes24 delay) ++ part (flags.getLsbD 6) (bytes32 deadline)
        ++ part (flags.getLsbD 3) (bytes24 interval ++ bytes16 executions) ++ part (flags.getLsbD 4) [guardByte]) =
      { line := line, action := action, flags := flags, due := if timed then due else 0
        period := if isTrain then period else 0, highTime := if isTrain then highTime else 0, pulses := if isTrain then pulses else 0
        trainByte := if isTrain then trainByte else 0
        triggerByte := if flags.getLsbD 5 then triggerByte else 0, delay := if flags.getLsbD 5 then delay else 0
        deadline := if flags.getLsbD 6 then deadline else 0
        interval := if flags.getLsbD 3 then interval else 0, executions := if flags.getLsbD 3 then executions else 0
        guardByte := if flags.getLsbD 4 then guardByte else 0 }) ∧
  ∀ (s t : State) (m : Master) (tag : Byte) (p : List Byte) (r : Result), TakenIn s m t → t.isActive m = true → postCheck t m p = some r →
    exec (.post m tag p) s = .next (t.respond m tag 0x30 { status := r, payload := [] })

/-- An entry takes its fields from the bits of its POST that section 11.3 gives them. An accepted timed POST whose due time is ahead puts an entry with
all its fields in the calendar, and an accepted armed POST puts one at the end of the armed list; each takes a ticket and one slot and touches nothing
else (R13, R25, R28, R44, R188). -/
def Obligations.PostLeavesATimedOrArmedEntry : Prop :=
  (∀ (f : PostFields) (tk : Ticket) (m : Master),
    f.core tk m =
      { ticket := tk, poster := m, line := Fin.ofNat 16 f.line.toNat
        action :=
          if f.action = 0 then .driveLow else if f.action = 1 then .driveHigh else if f.action = 2 then .toggle
          else if f.action = 3 then
            .train { period := f.period, fraction := BitVec.ofNat 4 f.trainByte.toNat, highTime := f.highTime, pulses := f.pulses
                     rest := if f.trainByte.getLsbD 4 then .high else .low, endNotice := f.trainByte.getLsbD 5 }
          else .trainStop
        repeatPart := if f.flags.getLsbD 3 then some { interval := f.interval, remaining := f.executions } else none
        guardPart :=
          if f.flags.getLsbD 4 then some { input := Fin.ofNat 8 f.guardByte.toNat, level := if f.guardByte.getLsbD 7 then .high else .low }
          else none
        runLate := f.flags.getLsbD 2, notify := f.flags.getLsbD 1 } ∧
    f.trigger =
      { input := Fin.ofNat 8 f.triggerByte.toNat, delay := f.delay
        edge := if f.triggerByte.toNat / 16 % 4 = 1 then .rise else if f.triggerByte.toNat / 16 % 4 = 2 then .fall else .either }) ∧
  ∀ (s t : State) (m : Master) (tag : Byte) (p : List Byte), TakenIn s m t → t.isActive m = true → postCheck t m p = none →
    let f := postFields p
    let tk := t.nextTicket
    let armedEntry : ArmedEntry :=
      { core := f.core tk m, trigger := f.trigger, deadline := if f.flags.getLsbD 6 = true then some f.deadline else none }
    let answer (outcome : Byte) : Reply :=
      ⟨.ok, bytes16 tk ++ [outcome, countByte (64 - (t.poolUsed + 1)), countByte (t.held m + 1)]⟩
    (f.flags.getLsbD 5 = true → exec (.post m tag p) s =
      .next (({ t with lastTicket := tk, armed := t.armed ++ [armedEntry] } : State).respond m tag 0x30 (answer 2))) ∧
    (f.flags.getLsbD 5 = false → f.flags.getLsbD 0 = false → classify t.count f.due = .ahead → exec (.post m tag p) s =
      .next (({ t with lastTicket := tk, timed := insertByDue t.count { core := f.core tk m, due := f.due } t.timed } : State).respond m tag
        0x30 (answer 1)))

/-- An accepted POST that is immediate, due now or behind is executed at the taking: the guard, then the trip state, then the action; its repeat
part is worked from the count at the taking, and no notice is stored (R26, R27, R28). -/
def Obligations.PostExecutesAtTheTaking : Prop :=
  ∀ (s t : State) (m : Master) (tag : Byte) (p : List Byte), TakenIn s m t → t.isActive m = true → postCheck t m p = none →
    let f := postFields p
    let tk := t.nextTicket
    let e := f.core tk m
    let late := decide (f.flags.getLsbD 0 = false ∧ classify t.count f.due = .behind)
    f.flags.getLsbD 5 = false → f.flags.getLsbD 0 = true ∨ classify t.count f.due ≠ .ahead →
    let t₁ : State := { t with lastTicket := tk }
    let guarded := ∃ g, e.guardPart = some g ∧ (t.input g.input).filtered ≠ g.level
    let retained : TimedEntry :=
      { core := { e with repeatPart := some ⟨f.interval, if f.executions = 0 then 0 else f.executions - 1⟩ }
        due := t.count + f.interval.setWidth 32 }
    let acts (u : State) (outcome : Byte) : Prop :=
      (f.flags.getLsbD 3 = false ∨ f.executions = 1 → exec (.post m tag p) s =
        .next (u.respond m tag 0x30 ⟨.ok, bytes16 tk ++ [outcome, countByte (64 - t.poolUsed), countByte (t.held m)]⟩)) ∧
      (f.flags.getLsbD 3 = true → f.executions ≠ 1 → exec (.post m tag p) s =
        .next (({ u with timed := insertByDue u.count retained u.timed } : State).respond m tag 0x30
          ⟨.ok, bytes16 tk ++ [outcome ||| 0x80, countByte (64 - (t.poolUsed + 1)), countByte (t.held m + 1)]⟩))
    (guarded → acts t₁ 5) ∧ (¬ guarded → t.trip.state = .tripped → acts t₁ 6) ∧
    (¬ guarded → t.trip.state = .normal → acts (t₁.applyAction e.line e.action tk) (if late then 4 else 3))

/-- The next ticket is the first value after the last one issued, 65535 followed by 1, that no entry in the pool holds. An entry takes its place in
a calendar in ascending distance after every entry not farther than it and before every entry farther (R15, R17). -/
def Obligations.TicketsAndCalendarOrder : Prop :=
  (∀ s : State, s.timed.length + s.armed.length ≤ 64 →
    let after (x : Ticket) : Ticket := if x = 65535 then 1 else x + 1
    ∃ k, s.nextTicket = after^[k + 1] s.lastTicket ∧ s.nextTicket ≠ 0 ∧ s.nextTicket ∉ s.tickets ∧
      ∀ j, j < k → after^[j + 1] s.lastTicket ∈ s.tickets) ∧
  ∀ (c : Word) (e : TimedEntry) (l : List TimedEntry), (l.Pairwise fun x y => distance c x.due ≤ distance c y.due) →
    ∃ before after, l = before ++ after ∧ insertByDue c e l = before ++ e :: after ∧
      (∀ x ∈ before, distance c x.due ≤ distance c e.due) ∧ ∀ x ∈ after, distance c e.due < distance c x.due

/-- CANCEL removes the requester's entry, TIMED or ARMED, and nothing else; an unknown ticket is NOT_FOUND and another master's is NOT_YOURS,
both changing nothing. CANCEL_LINE removes every entry of the requester for the line, TIMED and ARMED alike, touches no line record and answers how
many (R36, R38). -/
def Obligations.CancelAndCancelLineRemoveEntries : Prop :=
  (∀ (s t : State) (m : Master) (tag : Byte) (tk : Ticket), TakenIn s m t → t.isActive m = true → t.tickets.Nodup →
    let row := exec (.cancel m tag (bytes16 tk)) s
    let removed : State :=
      { t with timed := t.timed.filter fun e => decide (e.core.ticket ≠ tk), armed := t.armed.filter fun e => decide (e.core.ticket ≠ tk) }
    (tk ∉ t.tickets → row = .next (t.respond m tag 0x31 ⟨.notFound, []⟩)) ∧
    (∀ e ∈ t.timed, e.core.ticket = tk →
      (e.core.poster ≠ m → row = .next (t.respond m tag 0x31 ⟨.notYours, []⟩)) ∧
      (e.core.poster = m → row = .next (removed.respond m tag 0x31
        ⟨.ok, [1, countByte (64 - (t.poolUsed - 1)), countByte (t.held m - 1)]⟩))) ∧
    ∀ e ∈ t.armed, e.core.ticket = tk →
      (e.core.poster ≠ m → row = .next (t.respond m tag 0x31 ⟨.notYours, []⟩)) ∧
      (e.core.poster = m → row = .next (removed.respond m tag 0x31
        ⟨.ok, [2, countByte (64 - (t.poolUsed - 1)), countByte (t.held m - 1)]⟩))) ∧
  ∀ (s t : State) (m : Master) (tag : Byte) (l : Fin 16), TakenIn s m t → t.isActive m = true →
    let keep (e : EntryCore) : Bool := decide (¬ (e.poster = m ∧ e.line = l))
    let u : State := { t with timed := t.timed.filter fun e => keep e.core, armed := t.armed.filter fun e => keep e.core }
    exec (.cancelLine m tag [countByte l.val]) s = .next (u.respond m tag 0x32
      ⟨.ok, [countByte (t.poolUsed - u.poolUsed), countByte (64 - u.poolUsed), countByte (u.held m)]⟩)

/-- QUERY_ENTRY describes the requester's entry as it stands and changes no block (R40). -/
def Obligations.QueryEntryDescribesTheEntry : Prop :=
  ∀ (s t : State) (m : Master) (tag : Byte) (tk : Ticket), TakenIn s m t → t.isActive m = true → t.tickets.Nodup →
    let row := exec (.queryEntry m tag (bytes16 tk)) s
    let flags (e : EntryCore) : Byte :=
      (if e.notify then 0x02 else 0) ||| (if e.runLate then 0x04 else 0) ||| (if e.repeatPart = none then 0 else 0x08) |||
        (if e.guardPart = none then 0 else 0x10)
    let action (a : Action) : Byte :=
      match a with | .driveLow => 0 | .driveHigh => 1 | .toggle => 2 | .train _ => 3 | .trainStop => 4
    let tail (e : EntryCore) : List Byte :=
      (match e.repeatPart with | none => [0, 0, 0, 0, 1] | some r => bytes24 r.interval ++ bytes16 r.remaining) ++
      [match e.guardPart with | none => 0 | some g => countByte g.input.val ||| (if g.level = .high then 0x80 else 0)]
    (tk ∉ t.tickets → row = .next (t.respond m tag 0x33 ⟨.notFound, []⟩)) ∧
    (∀ e ∈ t.timed, e.core.ticket = tk → e.core.poster = m → row = .next (t.respond m tag 0x33 ⟨.ok, [1, countByte e.core.line.val, action e.core.action, flags e.core] ++ bytes32 e.due ++ [0, 0, 0, 0] ++ tail e.core⟩)) ∧
    (∀ e ∈ t.armed, e.core.ticket = tk → e.core.poster = m → row = .next (t.respond m tag 0x33 ⟨.ok, [2, countByte e.core.line.val, action e.core.action, flags e.core ||| 0x20 ||| (if e.deadline = none then 0 else 0x40)] ++
      bytes32 (match e.deadline with | none => 0 | some d => d) ++
      [countByte e.trigger.input.val ||| (match e.trigger.edge with | .rise => 0x10 | .fall => 0x20 | .either => 0x30)] ++
      bytes24 e.trigger.delay ++ tail e.core⟩)) ∧
    ((∃ e ∈ t.timed, e.core.ticket = tk ∧ e.core.poster ≠ m) ∨ (∃ e ∈ t.armed, e.core.ticket = tk ∧ e.core.poster ≠ m) →
      row = .next (t.respond m tag 0x33 ⟨.notYours, []⟩))

/-- SET_QUOTA sets the named master's quota, whatever its session, and removes no entry; SET_SAFE sets the safe level, and drives the line to it
at once when the line is unowned or the part is tripped, leaving the level, the mode and the generator untouched otherwise; SET_INPUT sets the select
and the filter length alone (R41, R42, R81, R121). -/
def Obligations.ConfigurationSetsItsOneSetting : Prop :=
  (∀ (s t : State) (m x : Master) (tag q : Byte), TakenIn s m t → t.configPort = some m → t.session m ≠ .lapsed → 1 ≤ q.toNat → q.toNat ≤ 64 →
    ∃ u : State, exec (.setQuota m tag [masterCode x, q]) s = .next (u.respond m tag 0x70 ⟨.ok, [q, countByte (t.held x)]⟩) ∧
      u = { t with quotas := u.quotas } ∧ u.quota x = q.toNat ∧ ∀ y, y ≠ x → u.quota y = t.quota y) ∧
  (∀ (s t : State) (m : Master) (tag : Byte) (l : Fin 16) (v : Level), TakenIn s m t → t.configPort = some m → t.session m ≠ .lapsed →
    let drives := (t.line l).owner = none ∨ t.trip.state = .tripped
    let level := if drives then v else (t.line l).level
    exec (.setSafe m tag [countByte l.val, levelCode v]) s = .next ((t.setLine l { t.line l with safe := v, level := level }).respond m tag 0x71
      ⟨.ok, [countByte l.val, levelCode v, levelCode level]⟩)) ∧
  ∀ (s t : State) (m : Master) (tag q : Byte) (i : Fin 8) (k : EdgeSelect), TakenIn s m t → t.configPort = some m → t.session m ≠ .lapsed →
    exec (.setInput m tag [countByte i.val, edgeSelectCode k, q]) s =
      .next ((t.setInput i { t.input i with select := k, filterLength := q }).respond m tag 0x72
        ⟨.ok, [countByte i.val, edgeSelectCode k, q, levelCode (t.input i).filtered]⟩)

/-- The steps of an execution, at dispatch and at a conversion: DROPPED and removed when the poster does not own the line; otherwise LATE_RUN
when it ran late, then skipped by its guard, suppressed by the trip state, or applied, each told to the poster when notify is yes. The repeat step: an
entry without a repeat part, or at its last execution, is gone; any other is re-inserted with one execution fewer, or as many when endless, due one
interval later, behind every entry with the same due time (R17, R27, R31, R32, R33, R34, R35, R53). -/
def Obligations.ExecutionGoesThroughItsSteps : Prop :=
  (∀ (s : State) (e : EntryCore) (late : Option Word),
    let told (u : State) (kind : NoticeKind) (detail : Byte) : State :=
      u.notify e.poster { kind := kind, ticket := e.ticket, line := some e.line, detail := detail, timestamp := s.count }
    let s₁ := match late with | none => s | some due => told s .lateRun (if 255 < (s.count - due).toNat then 255 else BitVec.ofNat 8 (s.count - due).toNat)
    let remaining : Byte := match e.repeatPart with
      | none => 0
      | some r => if r.remaining = 0 then 255 else if 255 < r.remaining.toNat - 1 then 255 else BitVec.ofNat 8 (r.remaining.toNat - 1)
    let had : Byte := match e.repeatPart with
      | none => 1
      | some r => if r.remaining = 0 ∨ 255 < r.remaining.toNat then 255 else BitVec.ofNat 8 r.remaining.toNat
    let reports (u : State) (kind : NoticeKind) : State := if e.notify = true then told u kind remaining else u
    let guarded := ∃ g, e.guardPart = some g ∧ (s.input g.input).filtered ≠ g.level
    ((s.line e.line).owner ≠ some e.poster → s.executeEntry e late = told s .dropped had) ∧
    ((s.line e.line).owner = some e.poster →
      (guarded → s.executeEntry e late = (reports s₁ .skipped).repeatFrom e s.count) ∧
      (¬ guarded → s.trip.state = .tripped → s.executeEntry e late = (reports s₁ .suppressed).repeatFrom e s.count) ∧
      (¬ guarded → s.trip.state = .normal →
        s.executeEntry e late = (reports (s₁.applyAction e.line e.action e.ticket) .done).repeatFrom e s.count))) ∧
  ∀ (s : State) (e : EntryCore) (base : Word),
    (e.repeatPart = none → s.repeatFrom e base = s) ∧
    ∀ r, e.repeatPart = some r →
      (r.remaining = 1 → s.repeatFrom e base = s) ∧
      (r.remaining ≠ 1 → s.repeatFrom e base =
        { s with timed := insertByDue s.count
                   ⟨{ e with repeatPart := some ⟨r.interval, if r.remaining = 0 then 0 else r.remaining - 1⟩ }, base + r.interval.setWidth 32⟩
                   s.timed })

/-- A dispatch takes every entry due at the tick out of the calendar and executes them one after another, in calendar order. The armed entries
whose deadline the count has reached leave the pool without executing, in posting order, each with a TIMEOUT notice whose detail is the executions it
had (R30, R56). -/
def Obligations.DispatchAndExpiryTakeWhatIsDue : Prop :=
  (∀ s : State, s.pins.resetN = .high →
    exec .dispatch s =
      .next ((s.timed.filter fun e => decide (e.due = s.count)).foldl (fun u e => u.executeEntry e.core none)
        { s with timed := s.timed.filter fun e => decide (e.due ≠ s.count) })) ∧
  ∀ s : State, s.pins.resetN = .high →
    exec .deadlineReached s =
      .next ((s.armed.filter fun e => decide (e.deadline = some s.count)).foldl
        (fun u e => u.notify e.core.poster
          { kind := .timeout, ticket := e.core.ticket, line := some e.core.line, timestamp := s.count
            detail := match e.core.repeatPart with
              | none => 1
              | some r => if r.remaining = 0 ∨ 255 < r.remaining.toNat then 255 else BitVec.ofNat 8 r.remaining.toNat })
        { s with armed := s.armed.filter fun e => decide (e.deadline ≠ some s.count) })

/-! ### Capture -/

/-- The sample of a tick: the raw level takes the pin's level; a STABLE filter that sees another level becomes a CANDIDATE of this tick, a
candidate that reverts is abandoned, and a candidate whose held ticks reach the filter length has an accepted edge outstanding. The first sample
after a reset sets both levels (R111, R112, R113, R127; log 4, log 5). -/
def Obligations.InputSampleRunsTheFilters : Prop :=
  ∀ (s : State) (pins : BitVec 8), s.pins.resetN = .high →
    (s.inputSampleDue = true → ∃ t, exec (.inputSample pins) s = .next t ∧
      t = { s with pins := { s.pins with inputs := pins }, inputs := t.inputs, sampled := true, inputSampleDue := false } ∧
      ∀ i : Fin 8,
        let r := s.input i
        let v : Level := if pins.getLsbD i.val = true then .high else .low
        (s.sampled = false → t.input i = { r with raw := v, filtered := v, filter := .stable }) ∧
        (s.sampled = true → v = r.filtered → t.input i = { r with raw := v, filter := .stable }) ∧
        (s.sampled = true → v ≠ r.filtered → r.filter = .stable →
          t.input i = { r with raw := v, filter := .candidate s.count (decide (r.filterLength = 0)) }) ∧
        (s.sampled = true → v ≠ r.filtered → ∀ e b, r.filter = .candidate e b →
          t.input i = { r with raw := v, filter := .candidate e (decide (r.filterLength.toNat ≤ (s.count - e).toNat)) })) ∧
    (s.inputSampleDue = false → exec (.inputSample pins) s = .next { s with pins := { s.pins with inputs := pins } })

/-- An accepted edge: the filtered level becomes the new level. When the edge select does not include its direction that is all. When it does, the
sequence rises by one, the record is delivered and the edge is offered to the armed list (R115, R120). -/
def Obligations.AcceptedEdgeIsRecordedAndOffered : Prop :=
  ∀ (s : State) (i : Fin 8) (e : Word), s.pins.resetN = .high → (s.input i).filter = .candidate e true →
    let r := s.input i
    let rises := r.filtered = .low
    let level : Level := if rises then .high else .low
    let direction : Direction := if rises then .rise else .fall
    let included := r.select = .both ∨ (r.select = .rise ∧ rises) ∨ (r.select = .fall ∧ ¬ rises)
    (¬ included → exec (.acceptedEdge i) s = .next (s.setInput i { r with filtered := level, filter := .stable })) ∧
    (included → exec (.acceptedEdge i) s =
      .next (((s.setInput i { r with filtered := level, filter := .stable, sequence := r.sequence + 1 }).deliver
        { input := i, edge := direction, gap := false, sequence := r.sequence + 1, timestamp := e }).offer i direction e))

/-- The delivery of a record to one master acts on that master's capture state alone: with fewer than sixteen records it is appended, with the gap
flag set if and only if gap pending is, and gap pending becomes clear; with sixteen it is not stored, the loss count rises, saturating at 255, and gap
pending becomes set. A read that clears the loss count does not clear gap pending (R118). It is made to the ACTIVE subscribers of the input (R115). -/
def Obligations.DeliveryStoresOrCountsTheLoss : Prop :=
  (∀ (k : CaptureState) (r : CaptureRecord),
    (k.queue.length < 16 → k.deliver r = { k with queue := k.queue ++ [{ r with gap := k.gapPending }], gapPending := false }) ∧
    (16 ≤ k.queue.length → k.deliver r = { k with lost := if k.lost = 255 then 255 else k.lost + 1, gapPending := true })) ∧
  (∀ (s : State) (r : CaptureRecord), s.deliver r = { s with captures := (s.deliver r).captures } ∧
    ∀ m, (s.deliver r).capture m =
      if s.isActive m = true ∧ (s.capture m).subscription.getLsbD r.input.val = true then (s.capture m).deliver r else s.capture m) ∧
  ∀ (s : State) (m x : Master) (p : List Byte), ((readCaptures m p s).1.capture x).gapPending = (s.capture x).gapPending

/-- The offer of an edge takes every matching entry out of the armed list and converts them one after another in posting order; the others keep
their places. An entry matches on its own input when its edge is the direction or EITHER. A converting entry is due at the edge's timestamp plus its
delay: ahead it enters the calendar, now it executes, behind it executes late under RUN_LATE and is discarded with LATE_DISCARDED under REFUSE_LATE,
the lateness saturated at 255 (R45, R50, R51, R52, R53, R54). -/
def Obligations.OfferConvertsTheMatchingEntries : Prop :=
  (∀ (s : State) (i : Fin 8) (d : Direction) (e : Word),
    let matchesEdge (a : ArmedEntry) : Bool :=
      decide (a.trigger.input = i ∧ (a.trigger.edge = .either ∨ (a.trigger.edge = .rise ∧ d = .rise) ∨ (a.trigger.edge = .fall ∧ d = .fall)))
    s.offer i d e = (s.armed.filter matchesEdge).foldl (fun u a => u.convert a e) { s with armed := s.armed.filter fun a => !matchesEdge a }) ∧
  ∀ (s : State) (a : ArmedEntry) (e : Word),
    let due := e + a.trigger.delay.setWidth 32
    (classify s.count due = .ahead → s.convert a e = { s with timed := insertByDue s.count { core := a.core, due := due } s.timed }) ∧
    (classify s.count due = .now → s.convert a e = s.executeEntry a.core none) ∧
    (classify s.count due = .behind → a.core.runLate = true → s.convert a e = s.executeEntry a.core (some due)) ∧
    (classify s.count due = .behind → a.core.runLate = false → s.convert a e =
      s.notify a.core.poster { kind := .lateDiscarded, ticket := a.core.ticket, line := some a.core.line, timestamp := s.count
                               detail := if 255 < (s.count - due).toNat then 255 else BitVec.ofNat 8 (s.count - due).toNat })

/-- SUBSCRIBE replaces the requester's set and watermark alone; READ_INPUTS shows the raw and filtered levels and changes no block (R122, R124). -/
def Obligations.SubscribeAndReadInputs : Prop :=
  (∀ (s t : State) (m : Master) (tag mask w : Byte), TakenIn s m t → t.isActive m = true → 1 ≤ w.toNat → w.toNat ≤ 16 →
    exec (.subscribe m tag [mask, w]) s =
      .next ((t.setCapture m { t.capture m with subscription := mask, watermark := w.toNat }).respond m tag 0x40
        ⟨.ok, [mask, w, countByte (t.capture m).queue.length]⟩)) ∧
  ∀ (s t : State) (m : Master) (tag : Byte), TakenIn s m t → ∃ raw filtered : Byte,
    exec (.readInputs m tag []) s = .next (t.respond m tag 0x42 ⟨.ok, [raw, filtered]⟩) ∧
    ∀ i : Fin 8, (raw.getLsbD i.val = true ↔ (t.input i).raw = .high) ∧ (filtered.getLsbD i.val = true ↔ (t.input i).filtered = .high)

/-- READ_CAPTURES and READ_NOTICES remove the oldest records, as many as asked or as there are, answer the count that remains, the loss count and the
records oldest first in their layouts, and clear the loss count; gap pending is kept (R123, R152, R189). -/
def Obligations.ReadsRemoveTheOldestRecords : Prop :=
  (∀ (s t : State) (m : Master) (tag n : Byte), TakenIn s m t → t.isActive m = true → 1 ≤ n.toNat → n.toNat ≤ 5 →
    let k := t.capture m
    exec (.readCaptures m tag [n]) s =
      .next ((t.setCapture m { k with queue := k.queue.drop n.toNat, lost := 0 }).respond m tag 0x41
        ⟨.ok, [countByte (k.queue.length - n.toNat), k.lost] ++ ((k.queue.take n.toNat).map fun r =>
            [countByte r.input.val ||| (if r.edge = .rise then 0x10 else 0) ||| (if r.gap then 0x80 else 0), r.sequence] ++
              bytes32 r.timestamp).flatten⟩)) ∧
  ∀ (s t : State) (m : Master) (tag n : Byte), TakenIn s m t → 1 ≤ n.toNat → n.toNat ≤ 3 →
    let q := t.noticeQueue m
    let kind (k : NoticeKind) : Byte :=
      match k with
      | .done => 0x01 | .skipped => 0x02 | .suppressed => 0x03 | .dropped => 0x04 | .lateRun => 0x05 | .lateDiscarded => 0x06
      | .timeout => 0x07 | .trainEnd => 0x08 | .granted => 0x09 | .lapsed => 0x0A | .peerLapsed => 0x0B | .tripped => 0x0C
      | .tripCleared => 0x0D
    exec (.readNotices m tag [n]) s =
      .next ((t.setNotices m { queue := q.queue.drop n.toNat, lost := 0 }).respond m tag 0x50
        ⟨.ok, [countByte (q.queue.length - n.toNat), q.lost] ++ ((q.queue.take n.toNat).map fun r =>
            [kind r.kind] ++ bytes16 r.ticket ++ [match r.line with | none => 0xFF | some l => countByte l.val] ++ [r.detail] ++
              bytes32 r.timestamp).flatten⟩)

/-! ### Notices and the trip -/

/-- A notice reaches the queue of its master while that master is ACTIVE: at the end of a queue of fewer than sixteen, else lost and counted,
saturating at 255; to a master not ACTIVE it is neither stored nor counted. The attention line is asserted while the session is not CLOSED and the
notice queue is non-empty or the capture count is at or above the watermark (R148, R149, R150, R155). -/
def Obligations.NoticeReachesActiveMasterOnly : Prop :=
  (∀ (s : State) (m : Master) (n : Notice), s.notify m n = { s with notices := (s.notify m n).notices } ∧
    (∀ x, x ≠ m → (s.notify m n).noticeQueue x = s.noticeQueue x) ∧
    (s.isActive m = false → s.notify m n = s) ∧
    (s.isActive m = true → (s.noticeQueue m).queue.length < 16 →
      (s.notify m n).noticeQueue m = { s.noticeQueue m with queue := (s.noticeQueue m).queue ++ [n] }) ∧
    (s.isActive m = true → 16 ≤ (s.noticeQueue m).queue.length →
      (s.notify m n).noticeQueue m = { s.noticeQueue m with lost := if (s.noticeQueue m).lost = 255 then 255 else (s.noticeQueue m).lost + 1 })) ∧
  (∀ (q : NoticeQueue) (n : Notice), q.store n =
    if q.queue.length < 16 then { q with queue := q.queue ++ [n] } else { q with lost := if q.lost = 255 then 255 else q.lost + 1 }) ∧
  ∀ (s : State) (m : Master), s.attention m = true ↔
    s.session m ≠ .closed ∧ ((s.noticeQueue m).queue ≠ [] ∨ (s.capture m).watermark ≤ (s.capture m).queue.length)

/-- A low sample in NORMAL trips the part: TRIPPED, the count raised and saturating at 255, the timestamp of this tick; every line STATIC at its
safe level with its generator IDLE; TRIPPED with the new count to every ACTIVE master. Owners, waits, safe levels, entries, sessions and capture
state are untouched (R160). TRIP and RE_ASSERTION are the same low sample (the model's choice, log 6). -/
def Obligations.LowSampleTripsThePart : Prop :=
  ∀ i ∈ [Instr.trip, .reAssertion], ∀ s : State, s.pins.resetN = .high → s.tripSampleDue = true → s.trip.state = .normal →
    let count : Byte := if s.trip.count = 255 then 255 else s.trip.count + 1
    ∃ t, exec i s = .next t ∧
      t = { s with
            pins := { s.pins with tripN := .low }, tripSampleDue := false
            trip := { state := .tripped, count := count, timestamp := s.count, lastSample := .low }
            lines := t.lines, gens := t.gens, notices := t.notices } ∧
      (∀ l, t.line l = { s.line l with mode := .static, level := (s.line l).safe } ∧ t.gen l = Generator.idle) ∧
      ∀ m, t.noticeQueue m =
        if s.isActive m then
          (s.noticeQueue m).store { kind := .tripped, ticket := 0, line := none, detail := count, timestamp := s.count }
        else s.noticeQueue m

/-- A sample while TRIPPED changes the last sample, and the trip count at a fall, and nothing else; a rise does not clear the trip. A high sample in
NORMAL sets the last sample (R159, R162). TRIP and RE_ASSERTION are the same low sample (log 6), and a row that comes when the sample of the tick has
been taken sets the pin alone (log 4): both are the model's choices. -/
def Obligations.SamplesWhileTripped : Prop :=
  (∀ i ∈ [Instr.trip, .reAssertion], ∀ s : State, s.pins.resetN = .high → s.tripSampleDue = true → s.trip.state = .tripped →
    exec i s = .next { s with
      pins := { s.pins with tripN := .low }, tripSampleDue := false
      trip := { s.trip with
                lastSample := .low
                count := if s.trip.lastSample = .low ∨ s.trip.count = 255 then s.trip.count else s.trip.count + 1 } }) ∧
  (∀ s : State, s.pins.resetN = .high → s.tripSampleDue = true →
    exec .riseOfTripN s =
      .next { s with pins := { s.pins with tripN := .high }, tripSampleDue := false, trip := { s.trip with lastSample := .high } }) ∧
  ∀ s : State, s.tripSampleDue = false →
    exec .trip s = .next { s with pins := { s.pins with tripN := .low } } ∧
    exec .reAssertion s = .next { s with pins := { s.pins with tripN := .low } } ∧
    exec .riseOfTripN s = .next { s with pins := { s.pins with tripN := .high } }

/-- CLEAR_TRIP by the table of R164, once it is served: ALREADY in NORMAL, TRIP_ACTIVE while the last sample is LOW, and otherwise NORMAL with a
TRIP_CLEARED notice naming the master to every ACTIVE one; the count, the timestamp and every line are kept (R164, R165). -/
def Obligations.ClearTripFollowsItsTable : Prop :=
  ∀ (s t : State) (m : Master) (tag : Byte), TakenIn s m t →
    (t.configPort = some m ∧ t.session m ≠ .lapsed) ∨ (t.configPort = none ∧ t.isActive m = true) →
    (t.trip.state = .normal → exec (.clearTrip m tag []) s =
      .next (t.respond m tag 0x60 ⟨.already, [0, t.trip.count] ++ bytes32 t.trip.timestamp⟩)) ∧
    (t.trip.state = .tripped → t.trip.lastSample = .low → exec (.clearTrip m tag []) s =
      .next (t.respond m tag 0x60 ⟨.tripActive, []⟩)) ∧
    (t.trip.state = .tripped → t.trip.lastSample = .high → ∃ u : State,
      exec (.clearTrip m tag []) s =
        .next (u.respond m tag 0x60 ⟨.ok, [0, t.trip.count] ++ bytes32 t.trip.timestamp⟩) ∧
      u = { t with trip := { t.trip with state := .normal }, notices := u.notices } ∧
      ∀ x, u.noticeQueue x =
        if t.isActive x then
          (t.noticeQueue x).store { kind := .tripCleared, ticket := 0, line := none, detail := masterCode m, timestamp := t.count }
        else t.noticeQueue x)

/-! ### What every step keeps -/

/-- Every step keeps the pool at 64 entries at most, no two with one ticket and none with ticket 0 (R12, R15). -/
def Obligations.StepKeepsThePoolWithinItsSlots : Prop :=
  ∀ s t : State, PoolOk s → step s = .next t → PoolOk t

/-- Every step keeps the fields of entries and generators, the quotas and the watermarks in their ranges (R13, R14, R88, R91, R117). -/
def Obligations.StepKeepsFieldsInRange : Prop :=
  ∀ s t : State, FieldsOk s → step s = .next t → FieldsOk t

/-- Every step keeps the poster of every entry owner of the entry's line, so that no entry outlives its poster's ownership; and it keeps owners and
waiters ACTIVE, each wait list free of doubles and of the owner, and empty on an unowned line (R63, R64). -/
def Obligations.StepKeepsPostersOwnersAndWaiters : Prop :=
  ∀ s t : State, step s = .next t → (EntriesOwned s → EntriesOwned t) ∧ (OwnersOk s → OwnersOk t)

/-- Every step keeps the lines and generators in step, with unowned lines, and every line while the part is tripped, STATIC at their safe levels
(R65, R66, R89, R161). -/
def Obligations.StepKeepsLinesAndGeneratorsInStep : Prop :=
  ∀ s t : State, LinesOk s → step s = .next t → LinesOk t

/-- Every step keeps what a master may hold in each session state, a STABLE input's raw level equal to its filtered level, and responses within 32
bytes of payload with no frame in progress on a high select (R110, R117, R138, R140, R149, R171, R173). -/
def Obligations.StepKeepsHoldingsFiltersAndPorts : Prop :=
  ∀ s t : State, step s = .next t → (HoldingsOk s → HoldingsOk t) ∧ (FiltersOk s → FiltersOk t) ∧ (PortsOk s → PortsOk t)

/-- No time is ever passed over: every step keeps the calendar in ascending distance with no due time, deadline, lease deadline or period end
behind the count, the fields being in their ranges (R4, R17, R46, R130). -/
def Obligations.NoTimeIsEverPassedOver : Prop := ∀ s t : State, FieldsOk s → TimesOk s → step s = .next t → TimesOk t

/-- All of what every step keeps holds in `State.reset`. -/
def Obligations.ResetStateKeepsEveryRule : Prop :=
  FieldsOk State.reset ∧ PoolOk State.reset ∧ EntriesOwned State.reset ∧ OwnersOk State.reset ∧ LinesOk State.reset ∧
    HoldingsOk State.reset ∧ FiltersOk State.reset ∧ PortsOk State.reset ∧ TimesOk State.reset
end

