-- ==== Sys2Proof/Laws/State.lean ====
section
/-! SUPPORT. The updates of the state's records field by field, so that no proof unfolds a record update: what each leaves as it was, and what
it puts in place. -/

namespace Sys2Proof.Machine

/-! ### Masters and vectors -/

@[simp] theorem PerMaster.get_set_self {α : Type} (p : PerMaster α) (m : Master) (x : α) : (p.set m x).get m = x := by cases m <;> rfl

theorem PerMaster.get_set_ne {α : Type} (p : PerMaster α) {m m' : Master} (x : α) (h : m' ≠ m) : (p.set m x).get m' = p.get m' := by
  cases m <;> cases m' <;> first | rfl | exact absurd rfl h

theorem PerMaster.get_set {α : Type} (p : PerMaster α) (m m' : Master) (x : α) :
    (p.set m x).get m' = if m' = m then x else p.get m' := by cases m <;> cases m' <;> rfl

@[simp] theorem PerMaster.get_all {α : Type} (x : α) (m : Master) : (PerMaster.all x).get m = x := by cases m <;> rfl

theorem PerMaster.ext_get {α : Type} {p q : PerMaster α} (h : ∀ m, p.get m = q.get m) : p = q := by
  cases p; cases q; exact PerMaster.mk.injEq .. ▸ ⟨h .a, h .b, h .c⟩

theorem PerMaster.set_set_self {α : Type} (p : PerMaster α) (m : Master) (x y : α) : (p.set m x).set m y = p.set m y := by cases m <;> rfl

theorem PerMaster.set_get_self {α : Type} (p : PerMaster α) (m : Master) : p.set m (p.get m) = p := by cases m <;> rfl

/-! ### Reading back what was put -/

@[simp] theorem State.line_setLine_self (s : State) (l : Fin 16) (r : LineRecord) : (s.setLine l r).line l = r := by
  simp [State.line, State.setLine]

theorem State.line_setLine_ne (s : State) {l l' : Fin 16} (r : LineRecord) (h : l' ≠ l) : (s.setLine l r).line l' = s.line l' := by
  simp only [State.line, State.setLine, Fin.getElem_fin]
  exact Vector.getElem_set_ne _ _ fun e => h (Fin.ext e.symm)

@[simp] theorem State.gen_setGen_self (s : State) (l : Fin 16) (g : Generator) : (s.setGen l g).gen l = g := by
  simp [State.gen, State.setGen]

theorem State.gen_setGen_ne (s : State) {l l' : Fin 16} (g : Generator) (h : l' ≠ l) : (s.setGen l g).gen l' = s.gen l' := by
  simp only [State.gen, State.setGen, Fin.getElem_fin]
  exact Vector.getElem_set_ne _ _ fun e => h (Fin.ext e.symm)

@[simp] theorem State.input_setInput_self (s : State) (i : Fin 8) (r : InputRecord) : (s.setInput i r).input i = r := by
  simp [State.input, State.setInput]

theorem State.input_setInput_ne (s : State) {i i' : Fin 8} (r : InputRecord) (h : i' ≠ i) : (s.setInput i r).input i' = s.input i' := by
  simp only [State.input, State.setInput, Fin.getElem_fin]
  exact Vector.getElem_set_ne _ _ fun e => h (Fin.ext e.symm)

theorem State.line_setLine (s : State) (l l' : Fin 16) (r : LineRecord) : (s.setLine l r).line l' = if l' = l then r else s.line l' := by
  split
  · next h => subst h; simp
  · next h => exact s.line_setLine_ne r h

theorem State.gen_setGen (s : State) (l l' : Fin 16) (g : Generator) : (s.setGen l g).gen l' = if l' = l then g else s.gen l' := by
  split
  · next h => subst h; simp
  · next h => exact s.gen_setGen_ne g h

theorem State.input_setInput (s : State) (i i' : Fin 8) (r : InputRecord) : (s.setInput i r).input i' = if i' = i then r else s.input i' := by
  split
  · next h => subst h; simp
  · next h => exact s.input_setInput_ne r h

@[simp] theorem State.session_setSession_self (s : State) (m : Master) (x : Session) : (s.setSession m x).session m = x := PerMaster.get_set_self ..

theorem State.session_setSession_ne (s : State) {m m' : Master} (x : Session) (h : m' ≠ m) : (s.setSession m x).session m' = s.session m' :=
  PerMaster.get_set_ne _ x h

theorem State.session_setSession (s : State) (m m' : Master) (x : Session) : (s.setSession m x).session m' = if m' = m then x else s.session m' :=
  PerMaster.get_set ..

@[simp] theorem State.noticeQueue_setNotices_self (s : State) (m : Master) (x : NoticeQueue) : (s.setNotices m x).noticeQueue m = x := PerMaster.get_set_self ..

theorem State.noticeQueue_setNotices_ne (s : State) {m m' : Master} (x : NoticeQueue) (h : m' ≠ m) : (s.setNotices m x).noticeQueue m' = s.noticeQueue m' :=
  PerMaster.get_set_ne _ x h

theorem State.noticeQueue_setNotices (s : State) (m m' : Master) (x : NoticeQueue) : (s.setNotices m x).noticeQueue m' = if m' = m then x else s.noticeQueue m' :=
  PerMaster.get_set ..

@[simp] theorem State.capture_setCapture_self (s : State) (m : Master) (x : CaptureState) : (s.setCapture m x).capture m = x := PerMaster.get_set_self ..

theorem State.capture_setCapture_ne (s : State) {m m' : Master} (x : CaptureState) (h : m' ≠ m) : (s.setCapture m x).capture m' = s.capture m' :=
  PerMaster.get_set_ne _ x h

theorem State.capture_setCapture (s : State) (m m' : Master) (x : CaptureState) : (s.setCapture m x).capture m' = if m' = m then x else s.capture m' :=
  PerMaster.get_set ..

@[simp] theorem State.port_setPort_self (s : State) (m : Master) (x : PortRecord) : (s.setPort m x).port m = x := PerMaster.get_set_self ..

theorem State.port_setPort_ne (s : State) {m m' : Master} (x : PortRecord) (h : m' ≠ m) : (s.setPort m x).port m' = s.port m' :=
  PerMaster.get_set_ne _ x h

theorem State.port_setPort (s : State) (m m' : Master) (x : PortRecord) : (s.setPort m x).port m' = if m' = m then x else s.port m' :=
  PerMaster.get_set ..

/-! ### `State.setLine` -/

@[simp] theorem State.count_setLine (s : State) (l : Fin 16) (r : LineRecord) : (s.setLine l r).count = s.count := rfl
@[simp] theorem State.tickUnit_setLine (s : State) (l : Fin 16) (r : LineRecord) : (s.setLine l r).tickUnit = s.tickUnit := rfl
@[simp] theorem State.configPort_setLine (s : State) (l : Fin 16) (r : LineRecord) : (s.setLine l r).configPort = s.configPort := rfl
@[simp] theorem State.i2cAddress_setLine (s : State) (l : Fin 16) (r : LineRecord) : (s.setLine l r).i2cAddress = s.i2cAddress := rfl
@[simp] theorem State.timed_setLine (s : State) (l : Fin 16) (r : LineRecord) : (s.setLine l r).timed = s.timed := rfl
@[simp] theorem State.armed_setLine (s : State) (l : Fin 16) (r : LineRecord) : (s.setLine l r).armed = s.armed := rfl
@[simp] theorem State.lastTicket_setLine (s : State) (l : Fin 16) (r : LineRecord) : (s.setLine l r).lastTicket = s.lastTicket := rfl
@[simp] theorem State.quotas_setLine (s : State) (l : Fin 16) (r : LineRecord) : (s.setLine l r).quotas = s.quotas := rfl
@[simp] theorem State.gens_setLine (s : State) (l : Fin 16) (r : LineRecord) : (s.setLine l r).gens = s.gens := rfl
@[simp] theorem State.inputs_setLine (s : State) (l : Fin 16) (r : LineRecord) : (s.setLine l r).inputs = s.inputs := rfl
@[simp] theorem State.captures_setLine (s : State) (l : Fin 16) (r : LineRecord) : (s.setLine l r).captures = s.captures := rfl
@[simp] theorem State.sessions_setLine (s : State) (l : Fin 16) (r : LineRecord) : (s.setLine l r).sessions = s.sessions := rfl
@[simp] theorem State.notices_setLine (s : State) (l : Fin 16) (r : LineRecord) : (s.setLine l r).notices = s.notices := rfl
@[simp] theorem State.trip_setLine (s : State) (l : Fin 16) (r : LineRecord) : (s.setLine l r).trip = s.trip := rfl
@[simp] theorem State.ports_setLine (s : State) (l : Fin 16) (r : LineRecord) : (s.setLine l r).ports = s.ports := rfl
@[simp] theorem State.spiA_setLine (s : State) (l : Fin 16) (r : LineRecord) : (s.setLine l r).spiA = s.spiA := rfl
@[simp] theorem State.spiB_setLine (s : State) (l : Fin 16) (r : LineRecord) : (s.setLine l r).spiB = s.spiB := rfl
@[simp] theorem State.i2c_setLine (s : State) (l : Fin 16) (r : LineRecord) : (s.setLine l r).i2c = s.i2c := rfl
@[simp] theorem State.stallTimeouts_setLine (s : State) (l : Fin 16) (r : LineRecord) : (s.setLine l r).stallTimeouts = s.stallTimeouts := rfl
@[simp] theorem State.pins_setLine (s : State) (l : Fin 16) (r : LineRecord) : (s.setLine l r).pins = s.pins := rfl
@[simp] theorem State.sampled_setLine (s : State) (l : Fin 16) (r : LineRecord) : (s.setLine l r).sampled = s.sampled := rfl
@[simp] theorem State.inputSampleDue_setLine (s : State) (l : Fin 16) (r : LineRecord) : (s.setLine l r).inputSampleDue = s.inputSampleDue := rfl
@[simp] theorem State.tripSampleDue_setLine (s : State) (l : Fin 16) (r : LineRecord) : (s.setLine l r).tripSampleDue = s.tripSampleDue := rfl
@[simp] theorem State.draws_setLine (s : State) (l : Fin 16) (r : LineRecord) : (s.setLine l r).draws = s.draws := rfl
@[simp] theorem State.pending_setLine (s : State) (l : Fin 16) (r : LineRecord) : (s.setLine l r).pending = s.pending := rfl
@[simp] theorem State.gen_setLine (s : State) (l : Fin 16) (r : LineRecord) (l' : Fin 16) : (s.setLine l r).gen l' = s.gen l' := rfl
@[simp] theorem State.input_setLine (s : State) (l : Fin 16) (r : LineRecord) (i' : Fin 8) : (s.setLine l r).input i' = s.input i' := rfl
@[simp] theorem State.session_setLine (s : State) (l : Fin 16) (r : LineRecord) (m' : Master) : (s.setLine l r).session m' = s.session m' := rfl
@[simp] theorem State.noticeQueue_setLine (s : State) (l : Fin 16) (r : LineRecord) (m' : Master) : (s.setLine l r).noticeQueue m' = s.noticeQueue m' := rfl
@[simp] theorem State.capture_setLine (s : State) (l : Fin 16) (r : LineRecord) (m' : Master) : (s.setLine l r).capture m' = s.capture m' := rfl
@[simp] theorem State.port_setLine (s : State) (l : Fin 16) (r : LineRecord) (m' : Master) : (s.setLine l r).port m' = s.port m' := rfl
@[simp] theorem State.quota_setLine (s : State) (l : Fin 16) (r : LineRecord) (m' : Master) : (s.setLine l r).quota m' = s.quota m' := rfl
@[simp] theorem State.isActive_setLine (s : State) (l : Fin 16) (r : LineRecord) (m' : Master) : (s.setLine l r).isActive m' = s.isActive m' := rfl

/-! ### `State.setGen` -/

@[simp] theorem State.count_setGen (s : State) (l : Fin 16) (g : Generator) : (s.setGen l g).count = s.count := rfl
@[simp] theorem State.tickUnit_setGen (s : State) (l : Fin 16) (g : Generator) : (s.setGen l g).tickUnit = s.tickUnit := rfl
@[simp] theorem State.configPort_setGen (s : State) (l : Fin 16) (g : Generator) : (s.setGen l g).configPort = s.configPort := rfl
@[simp] theorem State.i2cAddress_setGen (s : State) (l : Fin 16) (g : Generator) : (s.setGen l g).i2cAddress = s.i2cAddress := rfl
@[simp] theorem State.timed_setGen (s : State) (l : Fin 16) (g : Generator) : (s.setGen l g).timed = s.timed := rfl
@[simp] theorem State.armed_setGen (s : State) (l : Fin 16) (g : Generator) : (s.setGen l g).armed = s.armed := rfl
@[simp] theorem State.lastTicket_setGen (s : State) (l : Fin 16) (g : Generator) : (s.setGen l g).lastTicket = s.lastTicket := rfl
@[simp] theorem State.quotas_setGen (s : State) (l : Fin 16) (g : Generator) : (s.setGen l g).quotas = s.quotas := rfl
@[simp] theorem State.lines_setGen (s : State) (l : Fin 16) (g : Generator) : (s.setGen l g).lines = s.lines := rfl
@[simp] theorem State.inputs_setGen (s : State) (l : Fin 16) (g : Generator) : (s.setGen l g).inputs = s.inputs := rfl
@[simp] theorem State.captures_setGen (s : State) (l : Fin 16) (g : Generator) : (s.setGen l g).captures = s.captures := rfl
@[simp] theorem State.sessions_setGen (s : State) (l : Fin 16) (g : Generator) : (s.setGen l g).sessions = s.sessions := rfl
@[simp] theorem State.notices_setGen (s : State) (l : Fin 16) (g : Generator) : (s.setGen l g).notices = s.notices := rfl
@[simp] theorem State.trip_setGen (s : State) (l : Fin 16) (g : Generator) : (s.setGen l g).trip = s.trip := rfl
@[simp] theorem State.ports_setGen (s : State) (l : Fin 16) (g : Generator) : (s.setGen l g).ports = s.ports := rfl
@[simp] theorem State.spiA_setGen (s : State) (l : Fin 16) (g : Generator) : (s.setGen l g).spiA = s.spiA := rfl
@[simp] theorem State.spiB_setGen (s : State) (l : Fin 16) (g : Generator) : (s.setGen l g).spiB = s.spiB := rfl
@[simp] theorem State.i2c_setGen (s : State) (l : Fin 16) (g : Generator) : (s.setGen l g).i2c = s.i2c := rfl
@[simp] theorem State.stallTimeouts_setGen (s : State) (l : Fin 16) (g : Generator) : (s.setGen l g).stallTimeouts = s.stallTimeouts := rfl
@[simp] theorem State.pins_setGen (s : State) (l : Fin 16) (g : Generator) : (s.setGen l g).pins = s.pins := rfl
@[simp] theorem State.sampled_setGen (s : State) (l : Fin 16) (g : Generator) : (s.setGen l g).sampled = s.sampled := rfl
@[simp] theorem State.inputSampleDue_setGen (s : State) (l : Fin 16) (g : Generator) : (s.setGen l g).inputSampleDue = s.inputSampleDue := rfl
@[simp] theorem State.tripSampleDue_setGen (s : State) (l : Fin 16) (g : Generator) : (s.setGen l g).tripSampleDue = s.tripSampleDue := rfl
@[simp] theorem State.draws_setGen (s : State) (l : Fin 16) (g : Generator) : (s.setGen l g).draws = s.draws := rfl
@[simp] theorem State.pending_setGen (s : State) (l : Fin 16) (g : Generator) : (s.setGen l g).pending = s.pending := rfl
@[simp] theorem State.line_setGen (s : State) (l : Fin 16) (g : Generator) (l' : Fin 16) : (s.setGen l g).line l' = s.line l' := rfl
@[simp] theorem State.input_setGen (s : State) (l : Fin 16) (g : Generator) (i' : Fin 8) : (s.setGen l g).input i' = s.input i' := rfl
@[simp] theorem State.session_setGen (s : State) (l : Fin 16) (g : Generator) (m' : Master) : (s.setGen l g).session m' = s.session m' := rfl
@[simp] theorem State.noticeQueue_setGen (s : State) (l : Fin 16) (g : Generator) (m' : Master) : (s.setGen l g).noticeQueue m' = s.noticeQueue m' := rfl
@[simp] theorem State.capture_setGen (s : State) (l : Fin 16) (g : Generator) (m' : Master) : (s.setGen l g).capture m' = s.capture m' := rfl
@[simp] theorem State.port_setGen (s : State) (l : Fin 16) (g : Generator) (m' : Master) : (s.setGen l g).port m' = s.port m' := rfl
@[simp] theorem State.quota_setGen (s : State) (l : Fin 16) (g : Generator) (m' : Master) : (s.setGen l g).quota m' = s.quota m' := rfl
@[simp] theorem State.isActive_setGen (s : State) (l : Fin 16) (g : Generator) (m' : Master) : (s.setGen l g).isActive m' = s.isActive m' := rfl

/-! ### `State.setInput` -/

@[simp] theorem State.count_setInput (s : State) (i : Fin 8) (r : InputRecord) : (s.setInput i r).count = s.count := rfl
@[simp] theorem State.tickUnit_setInput (s : State) (i : Fin 8) (r : InputRecord) : (s.setInput i r).tickUnit = s.tickUnit := rfl
@[simp] theorem State.configPort_setInput (s : State) (i : Fin 8) (r : InputRecord) : (s.setInput i r).configPort = s.configPort := rfl
@[simp] theorem State.i2cAddress_setInput (s : State) (i : Fin 8) (r : InputRecord) : (s.setInput i r).i2cAddress = s.i2cAddress := rfl
@[simp] theorem State.timed_setInput (s : State) (i : Fin 8) (r : InputRecord) : (s.setInput i r).timed = s.timed := rfl
@[simp] theorem State.armed_setInput (s : State) (i : Fin 8) (r : InputRecord) : (s.setInput i r).armed = s.armed := rfl
@[simp] theorem State.lastTicket_setInput (s : State) (i : Fin 8) (r : InputRecord) : (s.setInput i r).lastTicket = s.lastTicket := rfl
@[simp] theorem State.quotas_setInput (s : State) (i : Fin 8) (r : InputRecord) : (s.setInput i r).quotas = s.quotas := rfl
@[simp] theorem State.lines_setInput (s : State) (i : Fin 8) (r : InputRecord) : (s.setInput i r).lines = s.lines := rfl
@[simp] theorem State.gens_setInput (s : State) (i : Fin 8) (r : InputRecord) : (s.setInput i r).gens = s.gens := rfl
@[simp] theorem State.captures_setInput (s : State) (i : Fin 8) (r : InputRecord) : (s.setInput i r).captures = s.captures := rfl
@[simp] theorem State.sessions_setInput (s : State) (i : Fin 8) (r : InputRecord) : (s.setInput i r).sessions = s.sessions := rfl
@[simp] theorem State.notices_setInput (s : State) (i : Fin 8) (r : InputRecord) : (s.setInput i r).notices = s.notices := rfl
@[simp] theorem State.trip_setInput (s : State) (i : Fin 8) (r : InputRecord) : (s.setInput i r).trip = s.trip := rfl
@[simp] theorem State.ports_setInput (s : State) (i : Fin 8) (r : InputRecord) : (s.setInput i r).ports = s.ports := rfl
@[simp] theorem State.spiA_setInput (s : State) (i : Fin 8) (r : InputRecord) : (s.setInput i r).spiA = s.spiA := rfl
@[simp] theorem State.spiB_setInput (s : State) (i : Fin 8) (r : InputRecord) : (s.setInput i r).spiB = s.spiB := rfl
@[simp] theorem State.i2c_setInput (s : State) (i : Fin 8) (r : InputRecord) : (s.setInput i r).i2c = s.i2c := rfl
@[simp] theorem State.stallTimeouts_setInput (s : State) (i : Fin 8) (r : InputRecord) : (s.setInput i r).stallTimeouts = s.stallTimeouts := rfl
@[simp] theorem State.pins_setInput (s : State) (i : Fin 8) (r : InputRecord) : (s.setInput i r).pins = s.pins := rfl
@[simp] theorem State.sampled_setInput (s : State) (i : Fin 8) (r : InputRecord) : (s.setInput i r).sampled = s.sampled := rfl
@[simp] theorem State.inputSampleDue_setInput (s : State) (i : Fin 8) (r : InputRecord) : (s.setInput i r).inputSampleDue = s.inputSampleDue := rfl
@[simp] theorem State.tripSampleDue_setInput (s : State) (i : Fin 8) (r : InputRecord) : (s.setInput i r).tripSampleDue = s.tripSampleDue := rfl
@[simp] theorem State.draws_setInput (s : State) (i : Fin 8) (r : InputRecord) : (s.setInput i r).draws = s.draws := rfl
@[simp] theorem State.pending_setInput (s : State) (i : Fin 8) (r : InputRecord) : (s.setInput i r).pending = s.pending := rfl
@[simp] theorem State.line_setInput (s : State) (i : Fin 8) (r : InputRecord) (l' : Fin 16) : (s.setInput i r).line l' = s.line l' := rfl
@[simp] theorem State.gen_setInput (s : State) (i : Fin 8) (r : InputRecord) (l' : Fin 16) : (s.setInput i r).gen l' = s.gen l' := rfl
@[simp] theorem State.session_setInput (s : State) (i : Fin 8) (r : InputRecord) (m' : Master) : (s.setInput i r).session m' = s.session m' := rfl
@[simp] theorem State.noticeQueue_setInput (s : State) (i : Fin 8) (r : InputRecord) (m' : Master) : (s.setInput i r).noticeQueue m' = s.noticeQueue m' := rfl
@[simp] theorem State.capture_setInput (s : State) (i : Fin 8) (r : InputRecord) (m' : Master) : (s.setInput i r).capture m' = s.capture m' := rfl
@[simp] theorem State.port_setInput (s : State) (i : Fin 8) (r : InputRecord) (m' : Master) : (s.setInput i r).port m' = s.port m' := rfl
@[simp] theorem State.quota_setInput (s : State) (i : Fin 8) (r : InputRecord) (m' : Master) : (s.setInput i r).quota m' = s.quota m' := rfl
@[simp] theorem State.isActive_setInput (s : State) (i : Fin 8) (r : InputRecord) (m' : Master) : (s.setInput i r).isActive m' = s.isActive m' := rfl

/-! ### `State.setSession` -/

@[simp] theorem State.count_setSession (s : State) (m : Master) (x : Session) : (s.setSession m x).count = s.count := rfl
@[simp] theorem State.tickUnit_setSession (s : State) (m : Master) (x : Session) : (s.setSession m x).tickUnit = s.tickUnit := rfl
@[simp] theorem State.configPort_setSession (s : State) (m : Master) (x : Session) : (s.setSession m x).configPort = s.configPort := rfl
@[simp] theorem State.i2cAddress_setSession (s : State) (m : Master) (x : Session) : (s.setSession m x).i2cAddress = s.i2cAddress := rfl
@[simp] theorem State.timed_setSession (s : State) (m : Master) (x : Session) : (s.setSession m x).timed = s.timed := rfl
@[simp] theorem State.armed_setSession (s : State) (m : Master) (x : Session) : (s.setSession m x).armed = s.armed := rfl
@[simp] theorem State.lastTicket_setSession (s : State) (m : Master) (x : Session) : (s.setSession m x).lastTicket = s.lastTicket := rfl
@[simp] theorem State.quotas_setSession (s : State) (m : Master) (x : Session) : (s.setSession m x).quotas = s.quotas := rfl
@[simp] theorem State.lines_setSession (s : State) (m : Master) (x : Session) : (s.setSession m x).lines = s.lines := rfl
@[simp] theorem State.gens_setSession (s : State) (m : Master) (x : Session) : (s.setSession m x).gens = s.gens := rfl
@[simp] theorem State.inputs_setSession (s : State) (m : Master) (x : Session) : (s.setSession m x).inputs = s.inputs := rfl
@[simp] theorem State.captures_setSession (s : State) (m : Master) (x : Session) : (s.setSession m x).captures = s.captures := rfl
@[simp] theorem State.notices_setSession (s : State) (m : Master) (x : Session) : (s.setSession m x).notices = s.notices := rfl
@[simp] theorem State.trip_setSession (s : State) (m : Master) (x : Session) : (s.setSession m x).trip = s.trip := rfl
@[simp] theorem State.ports_setSession (s : State) (m : Master) (x : Session) : (s.setSession m x).ports = s.ports := rfl
@[simp] theorem State.spiA_setSession (s : State) (m : Master) (x : Session) : (s.setSession m x).spiA = s.spiA := rfl
@[simp] theorem State.spiB_setSession (s : State) (m : Master) (x : Session) : (s.setSession m x).spiB = s.spiB := rfl
@[simp] theorem State.i2c_setSession (s : State) (m : Master) (x : Session) : (s.setSession m x).i2c = s.i2c := rfl
@[simp] theorem State.stallTimeouts_setSession (s : State) (m : Master) (x : Session) : (s.setSession m x).stallTimeouts = s.stallTimeouts := rfl
@[simp] theorem State.pins_setSession (s : State) (m : Master) (x : Session) : (s.setSession m x).pins = s.pins := rfl
@[simp] theorem State.sampled_setSession (s : State) (m : Master) (x : Session) : (s.setSession m x).sampled = s.sampled := rfl
@[simp] theorem State.inputSampleDue_setSession (s : State) (m : Master) (x : Session) : (s.setSession m x).inputSampleDue = s.inputSampleDue := rfl
@[simp] theorem State.tripSampleDue_setSession (s : State) (m : Master) (x : Session) : (s.setSession m x).tripSampleDue = s.tripSampleDue := rfl
@[simp] theorem State.draws_setSession (s : State) (m : Master) (x : Session) : (s.setSession m x).draws = s.draws := rfl
@[simp] theorem State.pending_setSession (s : State) (m : Master) (x : Session) : (s.setSession m x).pending = s.pending := rfl
@[simp] theorem State.line_setSession (s : State) (m : Master) (x : Session) (l' : Fin 16) : (s.setSession m x).line l' = s.line l' := rfl
@[simp] theorem State.gen_setSession (s : State) (m : Master) (x : Session) (l' : Fin 16) : (s.setSession m x).gen l' = s.gen l' := rfl
@[simp] theorem State.input_setSession (s : State) (m : Master) (x : Session) (i' : Fin 8) : (s.setSession m x).input i' = s.input i' := rfl
@[simp] theorem State.noticeQueue_setSession (s : State) (m : Master) (x : Session) (m' : Master) : (s.setSession m x).noticeQueue m' = s.noticeQueue m' := rfl
@[simp] theorem State.capture_setSession (s : State) (m : Master) (x : Session) (m' : Master) : (s.setSession m x).capture m' = s.capture m' := rfl
@[simp] theorem State.port_setSession (s : State) (m : Master) (x : Session) (m' : Master) : (s.setSession m x).port m' = s.port m' := rfl
@[simp] theorem State.quota_setSession (s : State) (m : Master) (x : Session) (m' : Master) : (s.setSession m x).quota m' = s.quota m' := rfl

/-! ### `State.setNotices` -/

@[simp] theorem State.count_setNotices (s : State) (m : Master) (q : NoticeQueue) : (s.setNotices m q).count = s.count := rfl
@[simp] theorem State.tickUnit_setNotices (s : State) (m : Master) (q : NoticeQueue) : (s.setNotices m q).tickUnit = s.tickUnit := rfl
@[simp] theorem State.configPort_setNotices (s : State) (m : Master) (q : NoticeQueue) : (s.setNotices m q).configPort = s.configPort := rfl
@[simp] theorem State.i2cAddress_setNotices (s : State) (m : Master) (q : NoticeQueue) : (s.setNotices m q).i2cAddress = s.i2cAddress := rfl
@[simp] theorem State.timed_setNotices (s : State) (m : Master) (q : NoticeQueue) : (s.setNotices m q).timed = s.timed := rfl
@[simp] theorem State.armed_setNotices (s : State) (m : Master) (q : NoticeQueue) : (s.setNotices m q).armed = s.armed := rfl
@[simp] theorem State.lastTicket_setNotices (s : State) (m : Master) (q : NoticeQueue) : (s.setNotices m q).lastTicket = s.lastTicket := rfl
@[simp] theorem State.quotas_setNotices (s : State) (m : Master) (q : NoticeQueue) : (s.setNotices m q).quotas = s.quotas := rfl
@[simp] theorem State.lines_setNotices (s : State) (m : Master) (q : NoticeQueue) : (s.setNotices m q).lines = s.lines := rfl
@[simp] theorem State.gens_setNotices (s : State) (m : Master) (q : NoticeQueue) : (s.setNotices m q).gens = s.gens := rfl
@[simp] theorem State.inputs_setNotices (s : State) (m : Master) (q : NoticeQueue) : (s.setNotices m q).inputs = s.inputs := rfl
@[simp] theorem State.captures_setNotices (s : State) (m : Master) (q : NoticeQueue) : (s.setNotices m q).captures = s.captures := rfl
@[simp] theorem State.sessions_setNotices (s : State) (m : Master) (q : NoticeQueue) : (s.setNotices m q).sessions = s.sessions := rfl
@[simp] theorem State.trip_setNotices (s : State) (m : Master) (q : NoticeQueue) : (s.setNotices m q).trip = s.trip := rfl
@[simp] theorem State.ports_setNotices (s : State) (m : Master) (q : NoticeQueue) : (s.setNotices m q).ports = s.ports := rfl
@[simp] theorem State.spiA_setNotices (s : State) (m : Master) (q : NoticeQueue) : (s.setNotices m q).spiA = s.spiA := rfl
@[simp] theorem State.spiB_setNotices (s : State) (m : Master) (q : NoticeQueue) : (s.setNotices m q).spiB = s.spiB := rfl
@[simp] theorem State.i2c_setNotices (s : State) (m : Master) (q : NoticeQueue) : (s.setNotices m q).i2c = s.i2c := rfl
@[simp] theorem State.stallTimeouts_setNotices (s : State) (m : Master) (q : NoticeQueue) : (s.setNotices m q).stallTimeouts = s.stallTimeouts := rfl
@[simp] theorem State.pins_setNotices (s : State) (m : Master) (q : NoticeQueue) : (s.setNotices m q).pins = s.pins := rfl
@[simp] theorem State.sampled_setNotices (s : State) (m : Master) (q : NoticeQueue) : (s.setNotices m q).sampled = s.sampled := rfl
@[simp] theorem State.inputSampleDue_setNotices (s : State) (m : Master) (q : NoticeQueue) : (s.setNotices m q).inputSampleDue = s.inputSampleDue := rfl
@[simp] theorem State.tripSampleDue_setNotices (s : State) (m : Master) (q : NoticeQueue) : (s.setNotices m q).tripSampleDue = s.tripSampleDue := rfl
@[simp] theorem State.draws_setNotices (s : State) (m : Master) (q : NoticeQueue) : (s.setNotices m q).draws = s.draws := rfl
@[simp] theorem State.pending_setNotices (s : State) (m : Master) (q : NoticeQueue) : (s.setNotices m q).pending = s.pending := rfl
@[simp] theorem State.line_setNotices (s : State) (m : Master) (q : NoticeQueue) (l' : Fin 16) : (s.setNotices m q).line l' = s.line l' := rfl
@[simp] theorem State.gen_setNotices (s : State) (m : Master) (q : NoticeQueue) (l' : Fin 16) : (s.setNotices m q).gen l' = s.gen l' := rfl
@[simp] theorem State.input_setNotices (s : State) (m : Master) (q : NoticeQueue) (i' : Fin 8) : (s.setNotices m q).input i' = s.input i' := rfl
@[simp] theorem State.session_setNotices (s : State) (m : Master) (q : NoticeQueue) (m' : Master) : (s.setNotices m q).session m' = s.session m' := rfl
@[simp] theorem State.capture_setNotices (s : State) (m : Master) (q : NoticeQueue) (m' : Master) : (s.setNotices m q).capture m' = s.capture m' := rfl
@[simp] theorem State.port_setNotices (s : State) (m : Master) (q : NoticeQueue) (m' : Master) : (s.setNotices m q).port m' = s.port m' := rfl
@[simp] theorem State.quota_setNotices (s : State) (m : Master) (q : NoticeQueue) (m' : Master) : (s.setNotices m q).quota m' = s.quota m' := rfl
@[simp] theorem State.isActive_setNotices (s : State) (m : Master) (q : NoticeQueue) (m' : Master) : (s.setNotices m q).isActive m' = s.isActive m' := rfl

/-! ### `State.setCapture` -/

@[simp] theorem State.count_setCapture (s : State) (m : Master) (k : CaptureState) : (s.setCapture m k).count = s.count := rfl
@[simp] theorem State.tickUnit_setCapture (s : State) (m : Master) (k : CaptureState) : (s.setCapture m k).tickUnit = s.tickUnit := rfl
@[simp] theorem State.configPort_setCapture (s : State) (m : Master) (k : CaptureState) : (s.setCapture m k).configPort = s.configPort := rfl
@[simp] theorem State.i2cAddress_setCapture (s : State) (m : Master) (k : CaptureState) : (s.setCapture m k).i2cAddress = s.i2cAddress := rfl
@[simp] theorem State.timed_setCapture (s : State) (m : Master) (k : CaptureState) : (s.setCapture m k).timed = s.timed := rfl
@[simp] theorem State.armed_setCapture (s : State) (m : Master) (k : CaptureState) : (s.setCapture m k).armed = s.armed := rfl
@[simp] theorem State.lastTicket_setCapture (s : State) (m : Master) (k : CaptureState) : (s.setCapture m k).lastTicket = s.lastTicket := rfl
@[simp] theorem State.quotas_setCapture (s : State) (m : Master) (k : CaptureState) : (s.setCapture m k).quotas = s.quotas := rfl
@[simp] theorem State.lines_setCapture (s : State) (m : Master) (k : CaptureState) : (s.setCapture m k).lines = s.lines := rfl
@[simp] theorem State.gens_setCapture (s : State) (m : Master) (k : CaptureState) : (s.setCapture m k).gens = s.gens := rfl
@[simp] theorem State.inputs_setCapture (s : State) (m : Master) (k : CaptureState) : (s.setCapture m k).inputs = s.inputs := rfl
@[simp] theorem State.sessions_setCapture (s : State) (m : Master) (k : CaptureState) : (s.setCapture m k).sessions = s.sessions := rfl
@[simp] theorem State.notices_setCapture (s : State) (m : Master) (k : CaptureState) : (s.setCapture m k).notices = s.notices := rfl
@[simp] theorem State.trip_setCapture (s : State) (m : Master) (k : CaptureState) : (s.setCapture m k).trip = s.trip := rfl
@[simp] theorem State.ports_setCapture (s : State) (m : Master) (k : CaptureState) : (s.setCapture m k).ports = s.ports := rfl
@[simp] theorem State.spiA_setCapture (s : State) (m : Master) (k : CaptureState) : (s.setCapture m k).spiA = s.spiA := rfl
@[simp] theorem State.spiB_setCapture (s : State) (m : Master) (k : CaptureState) : (s.setCapture m k).spiB = s.spiB := rfl
@[simp] theorem State.i2c_setCapture (s : State) (m : Master) (k : CaptureState) : (s.setCapture m k).i2c = s.i2c := rfl
@[simp] theorem State.stallTimeouts_setCapture (s : State) (m : Master) (k : CaptureState) : (s.setCapture m k).stallTimeouts = s.stallTimeouts := rfl
@[simp] theorem State.pins_setCapture (s : State) (m : Master) (k : CaptureState) : (s.setCapture m k).pins = s.pins := rfl
@[simp] theorem State.sampled_setCapture (s : State) (m : Master) (k : CaptureState) : (s.setCapture m k).sampled = s.sampled := rfl
@[simp] theorem State.inputSampleDue_setCapture (s : State) (m : Master) (k : CaptureState) : (s.setCapture m k).inputSampleDue = s.inputSampleDue := rfl
@[simp] theorem State.tripSampleDue_setCapture (s : State) (m : Master) (k : CaptureState) : (s.setCapture m k).tripSampleDue = s.tripSampleDue := rfl
@[simp] theorem State.draws_setCapture (s : State) (m : Master) (k : CaptureState) : (s.setCapture m k).draws = s.draws := rfl
@[simp] theorem State.pending_setCapture (s : State) (m : Master) (k : CaptureState) : (s.setCapture m k).pending = s.pending := rfl
@[simp] theorem State.line_setCapture (s : State) (m : Master) (k : CaptureState) (l' : Fin 16) : (s.setCapture m k).line l' = s.line l' := rfl
@[simp] theorem State.gen_setCapture (s : State) (m : Master) (k : CaptureState) (l' : Fin 16) : (s.setCapture m k).gen l' = s.gen l' := rfl
@[simp] theorem State.input_setCapture (s : State) (m : Master) (k : CaptureState) (i' : Fin 8) : (s.setCapture m k).input i' = s.input i' := rfl
@[simp] theorem State.session_setCapture (s : State) (m : Master) (k : CaptureState) (m' : Master) : (s.setCapture m k).session m' = s.session m' := rfl
@[simp] theorem State.noticeQueue_setCapture (s : State) (m : Master) (k : CaptureState) (m' : Master) : (s.setCapture m k).noticeQueue m' = s.noticeQueue m' := rfl
@[simp] theorem State.port_setCapture (s : State) (m : Master) (k : CaptureState) (m' : Master) : (s.setCapture m k).port m' = s.port m' := rfl
@[simp] theorem State.quota_setCapture (s : State) (m : Master) (k : CaptureState) (m' : Master) : (s.setCapture m k).quota m' = s.quota m' := rfl
@[simp] theorem State.isActive_setCapture (s : State) (m : Master) (k : CaptureState) (m' : Master) : (s.setCapture m k).isActive m' = s.isActive m' := rfl

/-! ### `State.setPort` -/

@[simp] theorem State.count_setPort (s : State) (m : Master) (p : PortRecord) : (s.setPort m p).count = s.count := rfl
@[simp] theorem State.tickUnit_setPort (s : State) (m : Master) (p : PortRecord) : (s.setPort m p).tickUnit = s.tickUnit := rfl
@[simp] theorem State.configPort_setPort (s : State) (m : Master) (p : PortRecord) : (s.setPort m p).configPort = s.configPort := rfl
@[simp] theorem State.i2cAddress_setPort (s : State) (m : Master) (p : PortRecord) : (s.setPort m p).i2cAddress = s.i2cAddress := rfl
@[simp] theorem State.timed_setPort (s : State) (m : Master) (p : PortRecord) : (s.setPort m p).timed = s.timed := rfl
@[simp] theorem State.armed_setPort (s : State) (m : Master) (p : PortRecord) : (s.setPort m p).armed = s.armed := rfl
@[simp] theorem State.lastTicket_setPort (s : State) (m : Master) (p : PortRecord) : (s.setPort m p).lastTicket = s.lastTicket := rfl
@[simp] theorem State.quotas_setPort (s : State) (m : Master) (p : PortRecord) : (s.setPort m p).quotas = s.quotas := rfl
@[simp] theorem State.lines_setPort (s : State) (m : Master) (p : PortRecord) : (s.setPort m p).lines = s.lines := rfl
@[simp] theorem State.gens_setPort (s : State) (m : Master) (p : PortRecord) : (s.setPort m p).gens = s.gens := rfl
@[simp] theorem State.inputs_setPort (s : State) (m : Master) (p : PortRecord) : (s.setPort m p).inputs = s.inputs := rfl
@[simp] theorem State.captures_setPort (s : State) (m : Master) (p : PortRecord) : (s.setPort m p).captures = s.captures := rfl
@[simp] theorem State.sessions_setPort (s : State) (m : Master) (p : PortRecord) : (s.setPort m p).sessions = s.sessions := rfl
@[simp] theorem State.notices_setPort (s : State) (m : Master) (p : PortRecord) : (s.setPort m p).notices = s.notices := rfl
@[simp] theorem State.trip_setPort (s : State) (m : Master) (p : PortRecord) : (s.setPort m p).trip = s.trip := rfl
@[simp] theorem State.spiA_setPort (s : State) (m : Master) (p : PortRecord) : (s.setPort m p).spiA = s.spiA := rfl
@[simp] theorem State.spiB_setPort (s : State) (m : Master) (p : PortRecord) : (s.setPort m p).spiB = s.spiB := rfl
@[simp] theorem State.i2c_setPort (s : State) (m : Master) (p : PortRecord) : (s.setPort m p).i2c = s.i2c := rfl
@[simp] theorem State.stallTimeouts_setPort (s : State) (m : Master) (p : PortRecord) : (s.setPort m p).stallTimeouts = s.stallTimeouts := rfl
@[simp] theorem State.pins_setPort (s : State) (m : Master) (p : PortRecord) : (s.setPort m p).pins = s.pins := rfl
@[simp] theorem State.sampled_setPort (s : State) (m : Master) (p : PortRecord) : (s.setPort m p).sampled = s.sampled := rfl
@[simp] theorem State.inputSampleDue_setPort (s : State) (m : Master) (p : PortRecord) : (s.setPort m p).inputSampleDue = s.inputSampleDue := rfl
@[simp] theorem State.tripSampleDue_setPort (s : State) (m : Master) (p : PortRecord) : (s.setPort m p).tripSampleDue = s.tripSampleDue := rfl
@[simp] theorem State.draws_setPort (s : State) (m : Master) (p : PortRecord) : (s.setPort m p).draws = s.draws := rfl
@[simp] theorem State.pending_setPort (s : State) (m : Master) (p : PortRecord) : (s.setPort m p).pending = s.pending := rfl
@[simp] theorem State.line_setPort (s : State) (m : Master) (p : PortRecord) (l' : Fin 16) : (s.setPort m p).line l' = s.line l' := rfl
@[simp] theorem State.gen_setPort (s : State) (m : Master) (p : PortRecord) (l' : Fin 16) : (s.setPort m p).gen l' = s.gen l' := rfl
@[simp] theorem State.input_setPort (s : State) (m : Master) (p : PortRecord) (i' : Fin 8) : (s.setPort m p).input i' = s.input i' := rfl
@[simp] theorem State.session_setPort (s : State) (m : Master) (p : PortRecord) (m' : Master) : (s.setPort m p).session m' = s.session m' := rfl
@[simp] theorem State.noticeQueue_setPort (s : State) (m : Master) (p : PortRecord) (m' : Master) : (s.setPort m p).noticeQueue m' = s.noticeQueue m' := rfl
@[simp] theorem State.capture_setPort (s : State) (m : Master) (p : PortRecord) (m' : Master) : (s.setPort m p).capture m' = s.capture m' := rfl
@[simp] theorem State.quota_setPort (s : State) (m : Master) (p : PortRecord) (m' : Master) : (s.setPort m p).quota m' = s.quota m' := rfl
@[simp] theorem State.isActive_setPort (s : State) (m : Master) (p : PortRecord) (m' : Master) : (s.setPort m p).isActive m' = s.isActive m' := rfl

/-! ### `State.setI2c` -/

@[simp] theorem State.count_setI2c (s : State) (x : I2cReceive) : (s.setI2c x).count = s.count := rfl
@[simp] theorem State.tickUnit_setI2c (s : State) (x : I2cReceive) : (s.setI2c x).tickUnit = s.tickUnit := rfl
@[simp] theorem State.configPort_setI2c (s : State) (x : I2cReceive) : (s.setI2c x).configPort = s.configPort := rfl
@[simp] theorem State.i2cAddress_setI2c (s : State) (x : I2cReceive) : (s.setI2c x).i2cAddress = s.i2cAddress := rfl
@[simp] theorem State.timed_setI2c (s : State) (x : I2cReceive) : (s.setI2c x).timed = s.timed := rfl
@[simp] theorem State.armed_setI2c (s : State) (x : I2cReceive) : (s.setI2c x).armed = s.armed := rfl
@[simp] theorem State.lastTicket_setI2c (s : State) (x : I2cReceive) : (s.setI2c x).lastTicket = s.lastTicket := rfl
@[simp] theorem State.quotas_setI2c (s : State) (x : I2cReceive) : (s.setI2c x).quotas = s.quotas := rfl
@[simp] theorem State.lines_setI2c (s : State) (x : I2cReceive) : (s.setI2c x).lines = s.lines := rfl
@[simp] theorem State.gens_setI2c (s : State) (x : I2cReceive) : (s.setI2c x).gens = s.gens := rfl
@[simp] theorem State.inputs_setI2c (s : State) (x : I2cReceive) : (s.setI2c x).inputs = s.inputs := rfl
@[simp] theorem State.captures_setI2c (s : State) (x : I2cReceive) : (s.setI2c x).captures = s.captures := rfl
@[simp] theorem State.sessions_setI2c (s : State) (x : I2cReceive) : (s.setI2c x).sessions = s.sessions := rfl
@[simp] theorem State.notices_setI2c (s : State) (x : I2cReceive) : (s.setI2c x).notices = s.notices := rfl
@[simp] theorem State.trip_setI2c (s : State) (x : I2cReceive) : (s.setI2c x).trip = s.trip := rfl
@[simp] theorem State.ports_setI2c (s : State) (x : I2cReceive) : (s.setI2c x).ports = s.ports := rfl
@[simp] theorem State.spiA_setI2c (s : State) (x : I2cReceive) : (s.setI2c x).spiA = s.spiA := rfl
@[simp] theorem State.spiB_setI2c (s : State) (x : I2cReceive) : (s.setI2c x).spiB = s.spiB := rfl
@[simp] theorem State.stallTimeouts_setI2c (s : State) (x : I2cReceive) : (s.setI2c x).stallTimeouts = s.stallTimeouts := rfl
@[simp] theorem State.pins_setI2c (s : State) (x : I2cReceive) : (s.setI2c x).pins = s.pins := rfl
@[simp] theorem State.sampled_setI2c (s : State) (x : I2cReceive) : (s.setI2c x).sampled = s.sampled := rfl
@[simp] theorem State.inputSampleDue_setI2c (s : State) (x : I2cReceive) : (s.setI2c x).inputSampleDue = s.inputSampleDue := rfl
@[simp] theorem State.tripSampleDue_setI2c (s : State) (x : I2cReceive) : (s.setI2c x).tripSampleDue = s.tripSampleDue := rfl
@[simp] theorem State.draws_setI2c (s : State) (x : I2cReceive) : (s.setI2c x).draws = s.draws := rfl
@[simp] theorem State.pending_setI2c (s : State) (x : I2cReceive) : (s.setI2c x).pending = s.pending := rfl
@[simp] theorem State.line_setI2c (s : State) (x : I2cReceive) (l' : Fin 16) : (s.setI2c x).line l' = s.line l' := rfl
@[simp] theorem State.gen_setI2c (s : State) (x : I2cReceive) (l' : Fin 16) : (s.setI2c x).gen l' = s.gen l' := rfl
@[simp] theorem State.input_setI2c (s : State) (x : I2cReceive) (i' : Fin 8) : (s.setI2c x).input i' = s.input i' := rfl
@[simp] theorem State.session_setI2c (s : State) (x : I2cReceive) (m' : Master) : (s.setI2c x).session m' = s.session m' := rfl
@[simp] theorem State.noticeQueue_setI2c (s : State) (x : I2cReceive) (m' : Master) : (s.setI2c x).noticeQueue m' = s.noticeQueue m' := rfl
@[simp] theorem State.capture_setI2c (s : State) (x : I2cReceive) (m' : Master) : (s.setI2c x).capture m' = s.capture m' := rfl
@[simp] theorem State.port_setI2c (s : State) (x : I2cReceive) (m' : Master) : (s.setI2c x).port m' = s.port m' := rfl
@[simp] theorem State.quota_setI2c (s : State) (x : I2cReceive) (m' : Master) : (s.setI2c x).quota m' = s.quota m' := rfl
@[simp] theorem State.isActive_setI2c (s : State) (x : I2cReceive) (m' : Master) : (s.setI2c x).isActive m' = s.isActive m' := rfl

/-! A second update of the same record overwrites the first. -/

@[simp] theorem State.setLine_setLine (s : State) (l : Fin 16) (x y : LineRecord) : (s.setLine l x).setLine l y = s.setLine l y := by
  simp [State.setLine, Vector.set_set]

@[simp] theorem State.setGen_setGen (s : State) (l : Fin 16) (x y : Generator) : (s.setGen l x).setGen l y = s.setGen l y := by
  simp [State.setGen, Vector.set_set]

@[simp] theorem State.setInput_setInput (s : State) (i : Fin 8) (x y : InputRecord) : (s.setInput i x).setInput i y = s.setInput i y := by
  simp [State.setInput, Vector.set_set]

@[simp] theorem State.setSession_setSession (s : State) (m : Master) (x y : Session) :
    (s.setSession m x).setSession m y = s.setSession m y := by cases m <;> rfl

@[simp] theorem State.setNotices_setNotices (s : State) (m : Master) (x y : NoticeQueue) :
    (s.setNotices m x).setNotices m y = s.setNotices m y := by cases m <;> rfl

@[simp] theorem State.setCapture_setCapture (s : State) (m : Master) (x y : CaptureState) :
    (s.setCapture m x).setCapture m y = s.setCapture m y := by cases m <;> rfl

@[simp] theorem State.setPort_setPort (s : State) (m : Master) (x y : PortRecord) : (s.setPort m x).setPort m y = s.setPort m y := by
  cases m <;> rfl

end Sys2Proof.Machine
end

