-- ==== Sys2Proof/Laws/Ops.lean ====
section
/-! SUPPORT. What each shared operation can change. An operation `f` leaves every field outside its mask as it was: `(f s).mask = s.mask`, and
the lemmas `<field>_of_<mask>` read one field off that equation. -/

namespace Sys2Proof.Machine

/-! ### The masks -/

/-- The state with all that an execution can change blanked: the calendar, the lines, the generators, the notice queues. -/
def State.maskExec (s : State) : State :=
  { s with timed := [], lines := Vector.replicate 16 LineRecord.initial, gens := Vector.replicate 16 Generator.idle
           notices := PerMaster.all NoticeQueue.initial }

/-- The state with all that an accepted edge can change blanked: as `maskExec`, and the armed list, the inputs, the capture state. -/
def State.maskEdge (s : State) : State :=
  { s.maskExec with armed := [], inputs := Vector.replicate 8 InputRecord.initial, captures := PerMaster.all CaptureState.initial }

/-- The state with all that the events of a tick can change blanked: as `maskEdge`, and the sessions, the trip record, the sample marks and
the draws. -/
def State.maskTick (s : State) : State :=
  { s.maskEdge with sessions := PerMaster.all .closed, trip := TripRecord.initial, sampled := false, inputSampleDue := false
                    tripSampleDue := false, draws := 0 }

/-- A fold keeps what each of its steps keeps. -/
theorem foldl_keeps {σ α β : Type} (f : σ → β) (g : σ → α → σ) (h : ∀ s a, f (g s a) = f s) (l : List α) (s : σ) :
    f (l.foldl g s) = f s := by
  induction l generalizing s with
  | nil => rfl
  | cons a l ih => simp [ih, h]

theorem maskEdge_of_maskExec {s t : State} (h : s.maskExec = t.maskExec) : s.maskEdge = t.maskEdge := by
  unfold State.maskEdge; rw [h]

theorem maskTick_of_maskEdge {s t : State} (h : s.maskEdge = t.maskEdge) : s.maskTick = t.maskTick := by
  unfold State.maskTick; rw [h]

/-! Reading one field off a mask. -/

theorem count_of_maskExec {s t : State} (h : s.maskExec = t.maskExec) : s.count = t.count :=
  congrArg (a₁ := s.maskExec) (a₂ := t.maskExec) State.count h
theorem quotas_of_maskExec {s t : State} (h : s.maskExec = t.maskExec) : s.quotas = t.quotas :=
  congrArg (a₁ := s.maskExec) (a₂ := t.maskExec) State.quotas h
theorem armed_of_maskExec {s t : State} (h : s.maskExec = t.maskExec) : s.armed = t.armed :=
  congrArg (a₁ := s.maskExec) (a₂ := t.maskExec) State.armed h
theorem inputs_of_maskExec {s t : State} (h : s.maskExec = t.maskExec) : s.inputs = t.inputs :=
  congrArg (a₁ := s.maskExec) (a₂ := t.maskExec) State.inputs h
theorem captures_of_maskExec {s t : State} (h : s.maskExec = t.maskExec) : s.captures = t.captures :=
  congrArg (a₁ := s.maskExec) (a₂ := t.maskExec) State.captures h
theorem sessions_of_maskExec {s t : State} (h : s.maskExec = t.maskExec) : s.sessions = t.sessions :=
  congrArg (a₁ := s.maskExec) (a₂ := t.maskExec) State.sessions h
theorem trip_of_maskExec {s t : State} (h : s.maskExec = t.maskExec) : s.trip = t.trip :=
  congrArg (a₁ := s.maskExec) (a₂ := t.maskExec) State.trip h
theorem ports_of_maskExec {s t : State} (h : s.maskExec = t.maskExec) : s.ports = t.ports :=
  congrArg (a₁ := s.maskExec) (a₂ := t.maskExec) State.ports h
theorem sampled_of_maskExec {s t : State} (h : s.maskExec = t.maskExec) : s.sampled = t.sampled :=
  congrArg (a₁ := s.maskExec) (a₂ := t.maskExec) State.sampled h
theorem inputSampleDue_of_maskExec {s t : State} (h : s.maskExec = t.maskExec) : s.inputSampleDue = t.inputSampleDue :=
  congrArg (a₁ := s.maskExec) (a₂ := t.maskExec) State.inputSampleDue h
theorem tripSampleDue_of_maskExec {s t : State} (h : s.maskExec = t.maskExec) : s.tripSampleDue = t.tripSampleDue :=
  congrArg (a₁ := s.maskExec) (a₂ := t.maskExec) State.tripSampleDue h
theorem draws_of_maskExec {s t : State} (h : s.maskExec = t.maskExec) : s.draws = t.draws :=
  congrArg (a₁ := s.maskExec) (a₂ := t.maskExec) State.draws h

theorem count_of_maskEdge {s t : State} (h : s.maskEdge = t.maskEdge) : s.count = t.count :=
  congrArg (a₁ := s.maskEdge) (a₂ := t.maskEdge) State.count h
theorem quotas_of_maskEdge {s t : State} (h : s.maskEdge = t.maskEdge) : s.quotas = t.quotas :=
  congrArg (a₁ := s.maskEdge) (a₂ := t.maskEdge) State.quotas h
theorem sessions_of_maskEdge {s t : State} (h : s.maskEdge = t.maskEdge) : s.sessions = t.sessions :=
  congrArg (a₁ := s.maskEdge) (a₂ := t.maskEdge) State.sessions h
theorem trip_of_maskEdge {s t : State} (h : s.maskEdge = t.maskEdge) : s.trip = t.trip :=
  congrArg (a₁ := s.maskEdge) (a₂ := t.maskEdge) State.trip h
theorem ports_of_maskEdge {s t : State} (h : s.maskEdge = t.maskEdge) : s.ports = t.ports :=
  congrArg (a₁ := s.maskEdge) (a₂ := t.maskEdge) State.ports h
theorem sampled_of_maskEdge {s t : State} (h : s.maskEdge = t.maskEdge) : s.sampled = t.sampled :=
  congrArg (a₁ := s.maskEdge) (a₂ := t.maskEdge) State.sampled h
theorem inputSampleDue_of_maskEdge {s t : State} (h : s.maskEdge = t.maskEdge) : s.inputSampleDue = t.inputSampleDue :=
  congrArg (a₁ := s.maskEdge) (a₂ := t.maskEdge) State.inputSampleDue h
theorem tripSampleDue_of_maskEdge {s t : State} (h : s.maskEdge = t.maskEdge) : s.tripSampleDue = t.tripSampleDue :=
  congrArg (a₁ := s.maskEdge) (a₂ := t.maskEdge) State.tripSampleDue h
theorem draws_of_maskEdge {s t : State} (h : s.maskEdge = t.maskEdge) : s.draws = t.draws :=
  congrArg (a₁ := s.maskEdge) (a₂ := t.maskEdge) State.draws h

theorem count_of_maskTick {s t : State} (h : s.maskTick = t.maskTick) : s.count = t.count :=
  congrArg (a₁ := s.maskTick) (a₂ := t.maskTick) State.count h
theorem tickUnit_of_maskTick {s t : State} (h : s.maskTick = t.maskTick) : s.tickUnit = t.tickUnit :=
  congrArg (a₁ := s.maskTick) (a₂ := t.maskTick) State.tickUnit h
theorem configPort_of_maskTick {s t : State} (h : s.maskTick = t.maskTick) : s.configPort = t.configPort :=
  congrArg (a₁ := s.maskTick) (a₂ := t.maskTick) State.configPort h
theorem i2cAddress_of_maskTick {s t : State} (h : s.maskTick = t.maskTick) : s.i2cAddress = t.i2cAddress :=
  congrArg (a₁ := s.maskTick) (a₂ := t.maskTick) State.i2cAddress h
theorem lastTicket_of_maskTick {s t : State} (h : s.maskTick = t.maskTick) : s.lastTicket = t.lastTicket :=
  congrArg (a₁ := s.maskTick) (a₂ := t.maskTick) State.lastTicket h
theorem quotas_of_maskTick {s t : State} (h : s.maskTick = t.maskTick) : s.quotas = t.quotas :=
  congrArg (a₁ := s.maskTick) (a₂ := t.maskTick) State.quotas h
theorem ports_of_maskTick {s t : State} (h : s.maskTick = t.maskTick) : s.ports = t.ports :=
  congrArg (a₁ := s.maskTick) (a₂ := t.maskTick) State.ports h
theorem spiA_of_maskTick {s t : State} (h : s.maskTick = t.maskTick) : s.spiA = t.spiA :=
  congrArg (a₁ := s.maskTick) (a₂ := t.maskTick) State.spiA h
theorem spiB_of_maskTick {s t : State} (h : s.maskTick = t.maskTick) : s.spiB = t.spiB :=
  congrArg (a₁ := s.maskTick) (a₂ := t.maskTick) State.spiB h
theorem i2c_of_maskTick {s t : State} (h : s.maskTick = t.maskTick) : s.i2c = t.i2c :=
  congrArg (a₁ := s.maskTick) (a₂ := t.maskTick) State.i2c h
theorem stallTimeouts_of_maskTick {s t : State} (h : s.maskTick = t.maskTick) : s.stallTimeouts = t.stallTimeouts :=
  congrArg (a₁ := s.maskTick) (a₂ := t.maskTick) State.stallTimeouts h
theorem pins_of_maskTick {s t : State} (h : s.maskTick = t.maskTick) : s.pins = t.pins :=
  congrArg (a₁ := s.maskTick) (a₂ := t.maskTick) State.pins h
theorem pending_of_maskTick {s t : State} (h : s.maskTick = t.maskTick) : s.pending = t.pending :=
  congrArg (a₁ := s.maskTick) (a₂ := t.maskTick) State.pending h

/-! ### Notices -/

/-- A notice changes the notice queues alone. -/
theorem State.notify_frame (s : State) (m : Master) (n : Notice) : s.notify m n = { s with notices := (s.notify m n).notices } := by
  unfold State.notify; split <;> rfl

@[simp] theorem State.maskExec_notify (s : State) (m : Master) (n : Notice) : (s.notify m n).maskExec = s.maskExec := by
  rw [s.notify_frame m n]; rfl

/-- What the queue of master `m'` holds after a notice to master `m`. -/
theorem State.noticeQueue_notify (s : State) (m m' : Master) (n : Notice) :
    (s.notify m n).noticeQueue m' = if m' = m ∧ s.isActive m = true then (s.noticeQueue m).store n else s.noticeQueue m' := by
  unfold State.notify
  by_cases h : s.isActive m = true
  · simp only [h, if_true, and_true]; exact s.noticeQueue_setNotices ..
  · simp [h]

@[simp] theorem State.line_notify (s : State) (m : Master) (n : Notice) (l : Fin 16) : (s.notify m n).line l = s.line l := by
  rw [s.notify_frame m n]; rfl

@[simp] theorem State.gen_notify (s : State) (m : Master) (n : Notice) (l : Fin 16) : (s.notify m n).gen l = s.gen l := by
  rw [s.notify_frame m n]; rfl

@[simp] theorem State.timed_notify (s : State) (m : Master) (n : Notice) : (s.notify m n).timed = s.timed := by
  rw [s.notify_frame m n]

@[simp] theorem State.isActive_notify (s : State) (m : Master) (n : Notice) (x : Master) : (s.notify m n).isActive x = s.isActive x := by
  rw [s.notify_frame m n]; rfl

/-! ### Lines and generators -/

@[simp] theorem State.maskExec_setLine (s : State) (l : Fin 16) (r : LineRecord) : (s.setLine l r).maskExec = s.maskExec := rfl

@[simp] theorem State.maskExec_setGen (s : State) (l : Fin 16) (g : Generator) : (s.setGen l g).maskExec = s.maskExec := rfl

@[simp] theorem State.maskExec_rest (s : State) (l : Fin 16) (v : Level) : (s.rest l v).maskExec = s.maskExec := rfl

@[simp] theorem State.maskExec_beginPeriod (s : State) (l : Fin 16) (g : Generator) : (s.beginPeriod l g).maskExec = s.maskExec := rfl

/-- A line brought to rest is STATIC at the level with its generator IDLE; no other line is touched. -/
theorem State.line_rest (s : State) (l l' : Fin 16) (v : Level) :
    (s.rest l v).line l' = if l' = l then { s.line l with mode := .static, level := v } else s.line l' := by
  unfold State.rest; rw [State.line_setLine]; rfl

theorem State.gen_rest (s : State) (l l' : Fin 16) (v : Level) : (s.rest l v).gen l' = if l' = l then Generator.idle else s.gen l' := by
  unfold State.rest; simp only [State.gen_setLine]; exact s.gen_setGen ..

/-- An action changes the record and the generator of its line alone. -/
theorem State.applyAction_frame (s : State) (l : Fin 16) (a : Action) (tk : Ticket) :
    s.applyAction l a tk = { s with lines := (s.applyAction l a tk).lines, gens := (s.applyAction l a tk).gens } := by
  cases a <;> simp only [State.applyAction, State.trainAction, State.trainStop, State.rest, State.startTrain, State.beginPeriod]
  all_goals first | rfl | (split <;> rfl)

@[simp] theorem State.maskExec_applyAction (s : State) (l : Fin 16) (a : Action) (tk : Ticket) :
    (s.applyAction l a tk).maskExec = s.maskExec := by
  rw [s.applyAction_frame l a tk]; rfl

/-- An action leaves the other lines, and the owner, the safe level and the waits of its own. -/
theorem State.line_applyAction (s : State) (l l' : Fin 16) (a : Action) (tk : Ticket) :
    ∃ mode level, (s.applyAction l a tk).line l' =
      if l' = l then { s.line l with mode := mode, level := level } else s.line l' := by
  have key : ∀ mode level, (if l' = l then { s.line l with mode := mode, level := level } else s.line l') =
      (if l' = l then ({ s.line l with mode := mode, level := level } : LineRecord) else s.line l') := fun _ _ => rfl
  have same : s.line l' = if l' = l then { s.line l with mode := (s.line l).mode, level := (s.line l).level } else s.line l' := by
    split
    · next h => subst h; rfl
    · rfl
  cases a with
  | driveLow => exact ⟨_, _, s.line_rest l l' _⟩
  | driveHigh => exact ⟨_, _, s.line_rest l l' _⟩
  | toggle => exact ⟨_, _, s.line_rest l l' _⟩
  | train r =>
    simp only [State.applyAction, State.trainAction]
    split
    · refine ⟨.train, firstLevel r, ?_⟩
      simp only [State.startTrain, State.beginPeriod]
      rw [State.line_setLine]; rfl
    · exact ⟨_, _, same⟩
    · exact ⟨_, _, same⟩
  | trainStop =>
    simp only [State.applyAction, State.trainStop]
    split
    · exact ⟨_, _, same⟩
    · exact ⟨_, _, same⟩
    · exact ⟨_, _, same⟩

@[simp] theorem State.owner_applyAction (s : State) (l l' : Fin 16) (a : Action) (tk : Ticket) :
    ((s.applyAction l a tk).line l').owner = (s.line l').owner := by
  obtain ⟨mode, level, h⟩ := s.line_applyAction l l' a tk
  rw [h]; split
  · next e => subst e; rfl
  · rfl

@[simp] theorem State.waits_applyAction (s : State) (l l' : Fin 16) (a : Action) (tk : Ticket) :
    ((s.applyAction l a tk).line l').waits = (s.line l').waits := by
  obtain ⟨mode, level, h⟩ := s.line_applyAction l l' a tk
  rw [h]; split
  · next e => subst e; rfl
  · rfl

@[simp] theorem State.safe_applyAction (s : State) (l l' : Fin 16) (a : Action) (tk : Ticket) :
    ((s.applyAction l a tk).line l').safe = (s.line l').safe := by
  obtain ⟨mode, level, h⟩ := s.line_applyAction l l' a tk
  rw [h]; split
  · next e => subst e; rfl
  · rfl

/-! ### Executions -/

@[simp] theorem State.maskExec_insertTimed (s : State) (e : TimedEntry) : (s.insertTimed e).maskExec = s.maskExec := rfl

/-- The repeat step changes the calendar alone. -/
theorem State.repeatFrom_frame (s : State) (e : EntryCore) (base : Word) :
    s.repeatFrom e base = { s with timed := (s.repeatFrom e base).timed } := by
  unfold State.repeatFrom; split
  · rfl
  · split <;> rfl

@[simp] theorem State.maskExec_repeatFrom (s : State) (e : EntryCore) (base : Word) : (s.repeatFrom e base).maskExec = s.maskExec := by
  rw [s.repeatFrom_frame e base]; rfl

@[simp] theorem State.maskExec_runAction (s : State) (e : EntryCore) : (s.runAction e).maskExec = s.maskExec := by
  unfold State.runAction; split <;> simp

@[simp] theorem State.maskExec_reportExecution (s : State) (e : EntryCore) (x : Execution) :
    (s.reportExecution e x).maskExec = s.maskExec := by
  unfold State.reportExecution; split <;> simp

@[simp] theorem State.maskExec_reportLate (s : State) (e : EntryCore) (late : Option Word) :
    (s.reportLate e late).maskExec = s.maskExec := by
  cases late <;> simp [State.reportLate]

/-- An execution changes the calendar, the lines, the generators and the notice queues alone. -/
@[simp] theorem State.maskExec_executeEntry (s : State) (e : EntryCore) (late : Option Word) :
    (s.executeEntry e late).maskExec = s.maskExec := by
  unfold State.executeEntry; split <;> simp

@[simp] theorem State.maskExec_dispatch (s : State) : s.dispatch.maskExec = s.maskExec := by
  unfold State.dispatch
  exact foldl_keeps State.maskExec (fun (s : State) (e : TimedEntry) => s.executeEntry e.core none)
    (fun s e => s.maskExec_executeEntry e.core none) s.dueEntries _

/-! ### Returns and purges -/

@[simp] theorem State.maskExec_returnLine (s : State) (l : Fin 16) (c : ReturnCause) : (s.returnLine l c).maskExec = s.maskExec := by
  unfold State.returnLine; simp only; split <;> simp

@[simp] theorem State.maskExec_withdrawWaits (s : State) (m : Master) : (s.withdrawWaits m).maskExec = s.maskExec :=
  foldl_keeps State.maskExec (fun (s : State) l => s.withdrawWait m l) (fun _ _ => rfl) allLines s

@[simp] theorem State.maskExec_returnLines (s : State) (m : Master) (c : ReturnCause) : (s.returnLines m c).maskExec = s.maskExec := by
  refine foldl_keeps State.maskExec (fun (s : State) l => s.returnIfOwned m c l) (fun s l => ?_) allLines s
  unfold State.returnIfOwned; split
  · exact s.maskExec_returnLine l c
  · rfl

@[simp] theorem State.maskEdge_setCapture (s : State) (m : Master) (k : CaptureState) : (s.setCapture m k).maskEdge = s.maskEdge := rfl

@[simp] theorem State.maskEdge_purgeEntries (s : State) (m : Master) : (s.purgeEntries m).maskEdge = s.maskEdge := rfl

@[simp] theorem State.maskTick_setSession (s : State) (m : Master) (x : Session) : (s.setSession m x).maskTick = s.maskTick := rfl

@[simp] theorem State.maskExec_setNotices (s : State) (m : Master) (q : NoticeQueue) : (s.setNotices m q).maskExec = s.maskExec := rfl

/-- A purge changes the pool, the lines, the generators, the notice queues and the capture state alone. -/
@[simp] theorem State.maskEdge_purge (s : State) (m : Master) (c : ReturnCause) : (s.purge m c).maskEdge = s.maskEdge := by
  have h : (((s.purgeEntries m).withdrawWaits m).returnLines m c).maskEdge = (s.purgeEntries m).maskEdge :=
    maskEdge_of_maskExec ((State.maskExec_returnLines _ m c).trans (State.maskExec_withdrawWaits _ m))
  unfold State.purge
  rw [State.maskEdge_setCapture, h, State.maskEdge_purgeEntries]

/-! ### The events of a tick -/

@[simp] theorem State.maskEdge_expire (s : State) : s.expire.maskEdge = s.maskEdge := by
  unfold State.expire
  exact (maskEdge_of_maskExec (foldl_keeps State.maskExec
    (fun (s : State) (e : ArmedEntry) => s.notify e.core.poster (entryNotice s .timeout e.core (detailHad e.core.repeatPart)))
    (fun s e => s.maskExec_notify _ _) s.expiredEntries _)).trans rfl

@[simp] theorem State.maskExec_convert (s : State) (a : ArmedEntry) (e : Word) : (s.convert a e).maskExec = s.maskExec := by
  unfold State.convert; simp only; split
  · rfl
  · simp
  · split <;> simp

@[simp] theorem State.maskEdge_offer (s : State) (i : Fin 8) (d : Direction) (e : Word) : (s.offer i d e).maskEdge = s.maskEdge := by
  unfold State.offer
  exact (maskEdge_of_maskExec (foldl_keeps State.maskExec (fun (s : State) (a : ArmedEntry) => s.convert a e)
    (fun s a => s.maskExec_convert a e) (s.armed.filter fun a => a.takes i d) _)).trans rfl

@[simp] theorem State.maskEdge_deliver (s : State) (r : CaptureRecord) : (s.deliver r).maskEdge = s.maskEdge := by
  refine foldl_keeps State.maskEdge (fun (s : State) m => s.deliverTo r m) (fun s m => ?_) masters s
  unfold State.deliverTo; split <;> rfl

@[simp] theorem State.maskEdge_setInput (s : State) (i : Fin 8) (r : InputRecord) : (s.setInput i r).maskEdge = s.maskEdge := rfl

/-- An accepted edge changes the pool, the lines, the generators, the notice queues, the inputs and the capture queues alone. -/
@[simp] theorem State.maskEdge_takeEdge (s : State) (i : Fin 8) : (s.takeEdge i).maskEdge = s.maskEdge := by
  unfold State.takeEdge; split
  · unfold State.acceptEdge; simp only; split
    · simp [State.recordEdge]
    · rfl
  · rfl
  · rfl

/-- A period end changes its line, its generator and the notice queues alone. -/
@[simp] theorem State.maskExec_periodEnd (s : State) (l : Fin 16) : (s.periodEnd l).maskExec = s.maskExec := by
  have ends (cause : TrainEndCause) : (s.endTrain l cause).maskExec = s.maskExec := by
    unfold State.endTrain; simp only; split
    · unfold State.notifyOwner; split <;> simp
    · simp
  unfold State.periodEnd; split
  · split
    · exact ends _
    · unfold State.runningPeriodEnd; split
      · rfl
      · split
        · rfl
        · split
          · exact ends _
          · rfl
    · rfl
  · rfl

@[simp] theorem State.maskExec_highPartEnd (s : State) (l : Fin 16) : (s.highPartEnd l).maskExec = s.maskExec := by
  unfold State.highPartEnd; split <;> rfl

@[simp] theorem State.maskExec_tellPeers (s : State) (m : Master) : (s.tellPeers m).maskExec = s.maskExec :=
  foldl_keeps State.maskExec (fun (s : State) x => s.notify x (peerLapsedNotice s m)) (fun s x => s.maskExec_notify x _)
    (masters.filter fun x => !(x = m)) s

@[simp] theorem State.maskExec_notifyAll (s : State) (n : Notice) : (s.notifyAll n).maskExec = s.maskExec :=
  foldl_keeps State.maskExec (fun (s : State) m => s.notify m n) (fun s m => s.maskExec_notify m n) masters s

@[simp] theorem State.maskExec_restAll (s : State) : s.restAll.maskExec = s.maskExec :=
  foldl_keeps State.maskExec (fun (s : State) l => s.rest l (s.line l).safe) (fun s l => s.maskExec_rest l _) allLines s

@[simp] theorem State.maskTick_lapse (s : State) (m : Master) : (s.lapse m).maskTick = s.maskTick := by
  unfold State.lapse; split
  · unfold State.lapseNow; simp only
    rw [State.maskTick_setSession]
    refine maskTick_of_maskEdge (Eq.trans (maskEdge_of_maskExec ?_) (s.maskEdge_purge m .lapsed))
    rw [State.maskExec_tellPeers, State.maskExec_notify, State.maskExec_setNotices]
  · rfl

@[simp] theorem State.maskTick_takeTripSample (s : State) : s.takeTripSample.maskTick = s.maskTick := by
  unfold State.takeTripSample; split
  · unfold State.sampleTrip; split
    · unfold State.tripNow
      exact (maskTick_of_maskEdge (maskEdge_of_maskExec ((State.maskExec_notifyAll _ _).trans (State.maskExec_restAll _)))).trans rfl
    · rfl
    · rfl
  · rfl

@[simp] theorem State.maskTick_takeInputSample (s : State) : s.takeInputSample.maskTick = s.maskTick := by
  unfold State.takeInputSample; split
  · unfold State.sampleInputs
    have h (u : State) : (allInputs.foldl (fun s i => s.sampleInput i) u).maskEdge = u.maskEdge := by
      refine foldl_keeps State.maskEdge (fun (s : State) i => s.sampleInput i) (fun s i => ?_) allInputs u
      unfold State.sampleInput; split <;> rfl
    have marks (u : State) : ({ u with sampled := true, inputSampleDue := false } : State).maskTick = u.maskTick := rfl
    exact (marks _).trans (maskTick_of_maskEdge (h s))
  · rfl

/-- No event of a tick changes the timebase, the straps, the ticket allocator, the quotas, the ports, the pins or the queue. -/
@[simp] theorem State.maskTick_takeEvent (s : State) (e : TickEvent) : (s.takeEvent e).maskTick = s.maskTick := by
  cases e with
  | dispatch => exact maskTick_of_maskEdge (maskEdge_of_maskExec s.maskExec_dispatch)
  | deadlines => exact maskTick_of_maskEdge s.maskEdge_expire
  | lapse m => exact s.maskTick_lapse m
  | periodEnd l => exact maskTick_of_maskEdge (maskEdge_of_maskExec (s.maskExec_periodEnd l))
  | highPartEnd l => exact maskTick_of_maskEdge (maskEdge_of_maskExec (s.maskExec_highPartEnd l))
  | edge i => exact maskTick_of_maskEdge (s.maskEdge_takeEdge i)
  | trip => exact s.maskTick_takeTripSample

@[simp] theorem State.maskTick_takeSamples (s : State) : s.takeSamples.maskTick = s.maskTick := by
  unfold State.takeSamples; simp only; split <;> simp

/-- Settling changes nothing that the events of a tick do not change. -/
@[simp] theorem State.maskTick_settle (s : State) : s.settle.maskTick = s.maskTick := by
  unfold State.settle
  have draws (u : State) (k : Nat) : ({ u with draws := k } : State).maskTick = u.maskTick := rfl
  exact (foldl_keeps State.maskTick (fun (s : State) e => s.takeEvent e) (fun s e => s.maskTick_takeEvent e) _ _).trans
    ((draws _ _).trans s.maskTick_takeSamples)

@[simp] theorem State.count_settle (s : State) : s.settle.count = s.count := count_of_maskTick s.maskTick_settle
@[simp] theorem State.tickUnit_settle (s : State) : s.settle.tickUnit = s.tickUnit := tickUnit_of_maskTick s.maskTick_settle
@[simp] theorem State.configPort_settle (s : State) : s.settle.configPort = s.configPort := configPort_of_maskTick s.maskTick_settle
@[simp] theorem State.i2cAddress_settle (s : State) : s.settle.i2cAddress = s.i2cAddress := i2cAddress_of_maskTick s.maskTick_settle
@[simp] theorem State.lastTicket_settle (s : State) : s.settle.lastTicket = s.lastTicket := lastTicket_of_maskTick s.maskTick_settle
@[simp] theorem State.quotas_settle (s : State) : s.settle.quotas = s.quotas := quotas_of_maskTick s.maskTick_settle
@[simp] theorem State.ports_settle (s : State) : s.settle.ports = s.ports := ports_of_maskTick s.maskTick_settle
@[simp] theorem State.spiA_settle (s : State) : s.settle.spiA = s.spiA := spiA_of_maskTick s.maskTick_settle
@[simp] theorem State.spiB_settle (s : State) : s.settle.spiB = s.spiB := spiB_of_maskTick s.maskTick_settle
@[simp] theorem State.i2c_settle (s : State) : s.settle.i2c = s.i2c := i2c_of_maskTick s.maskTick_settle
@[simp] theorem State.stallTimeouts_settle (s : State) : s.settle.stallTimeouts = s.stallTimeouts := stallTimeouts_of_maskTick s.maskTick_settle
@[simp] theorem State.pins_settle (s : State) : s.settle.pins = s.pins := pins_of_maskTick s.maskTick_settle
@[simp] theorem State.pending_settle (s : State) : s.settle.pending = s.pending := pending_of_maskTick s.maskTick_settle

@[simp] theorem State.port_settle (s : State) (m : Master) : s.settle.port m = s.port m := by simp [State.port]

@[simp] theorem State.spi_settle (s : State) (p : SpiPort) : s.settle.spi p = s.spi p := by cases p <;> simp [State.spi]

/-- With nothing left to take, settling changes nothing. -/
theorem State.settle_of_quiet {s : State} (h : Quiet s) : s.settle = s := by
  obtain ⟨h₁, h₂, h₃⟩ := h
  have e₁ : s.takeInputSample = s := by simp [State.takeInputSample, h₁]
  have e₂ : s.tripDue = false := by simp [State.tripDue, h₂]
  have e₃ : s.takeTripSample = s := by simp [State.takeTripSample, h₂]
  have e₄ : s.takeSamples = s := by simp [State.takeSamples, e₁, e₂, e₃]
  simp only [State.settle, e₄, h₃]
  rfl

/-! ### Sending -/

/-- What a port that sends `x` holds after `n` bytes: the bytes put out, and the response delivered when they are all of it (R171, R172). -/
theorem PortRecord.sent_of_sending {p : PortRecord} {x : Sending} (h : p.sending = some x) (n : Nat) :
    p.sent n =
      { p with
        bytesSent := n, wire := wireBytes x.bytes n, sending := some { x with holds := decide (x.holds = true ∧ n < x.bytes.length) }
        response := if x.holds = true ∧ x.bytes.length ≤ n then none else p.response } := by
  unfold PortRecord.sent
  rw [h]
  by_cases hn : x.bytes.length ≤ n
  · cases hx : x.holds <;> simp [hn, Nat.not_lt.mpr hn, hx]
    simp [← hx]
  · cases hx : x.holds <;> simp [hn, Nat.not_le.mp hn, hx] <;> simp [← hx]

/-! ### The taking of a command -/

theorem State.outside_of_high {s : State} (h : s.pins.resetN = .high) (f : State → State) : s.outside f = f s.settle := by
  simp [State.outside, State.unlessReset, State.inReset, h]

theorem State.outside_of_low {s : State} (h : s.pins.resetN = .low) (f : State → State) : s.outside f = s := by
  simp [State.outside, State.unlessReset, State.inReset, h]

theorem State.unlessReset_of_high {s : State} (h : s.pins.resetN = .high) (f : State → State) : s.unlessReset f = f s := by
  simp [State.unlessReset, State.inReset, h]

theorem State.unlessReset_of_low {s : State} (h : s.pins.resetN = .low) (f : State → State) : s.unlessReset f = s := by
  simp [State.unlessReset, State.inReset, h]

/-- A frame that finds no undelivered response is taken. -/
theorem State.command_of_none {s : State} {m : Master} (h : (s.port m).response = none) (tag : Byte) (c : Command) (p : List Byte)
    (act : Meaning) : s.command m tag c p act = s.takeCommand m tag c p act := by
  simp [State.command, h]

/-- A command that no common refusal stops acts, and its response is built after it. -/
theorem State.takeCommand_served {s : State} {m : Master} {c : Command} {p : List Byte} (h : s.commonRefusal m c p.length = none) (tag : Byte)
    (act : Meaning) : s.takeCommand m tag c p act = (act m p s).1.respond m tag c.code (act m p s).2 := by
  simp [State.takeCommand, h]

/-- A command that a common refusal stops changes nothing but its port's response. -/
theorem State.takeCommand_refused {s : State} {m : Master} {c : Command} {p : List Byte} {r : Result}
    (h : s.commonRefusal m c p.length = some r) (tag : Byte) (act : Meaning) :
    s.takeCommand m tag c p act = s.respond m tag c.code { status := r, payload := [] } := by
  simp [State.takeCommand, h, Reply.refuse]

/-- A command row is a complete frame of its command at its port, once the events of the tick are taken. -/
theorem exec_commandRow (c : Command) (m : Master) (tag : Byte) (p : List Byte) (s : State) :
    exec (commandRow c m tag p) s = .next (s.outside fun s => s.command m tag c p (meaningOf c)) := by
  cases c <;> rfl

/-- The state in which a frame is taken is the state its command finds. -/
theorem outside_of_takenIn {s t : State} {m : Master} (h : TakenIn s m t) (f : State → State) : s.outside f = f t := by
  rw [State.outside_of_high h.1, h.2.1]

/-- A command row whose frame is taken does what the command does. -/
theorem exec_of_takenIn {s t : State} {m : Master} (h : TakenIn s m t) (c : Command) (tag : Byte) (p : List Byte) :
    exec (commandRow c m tag p) s = .next (t.takeCommand m tag c p (meaningOf c)) := by
  rw [exec_commandRow, outside_of_takenIn h, State.command_of_none h.2.2]

/-- A row that is served leaves its block's state with its block's reply as the pending response. -/
theorem exec_of_served {s t : State} {m : Master} (h : TakenIn s m t) {c : Command} {p : List Byte}
    (served : t.commonRefusal m c p.length = none) (tag : Byte) :
    exec (commandRow c m tag p) s = .next ((meaningOf c m p t).1.respond m tag c.code (meaningOf c m p t).2) := by
  rw [exec_of_takenIn h, State.takeCommand_served served]

/-- A row that a common refusal stops answers that refusal and changes no block. -/
theorem exec_of_refused {s t : State} {m : Master} (h : TakenIn s m t) {c : Command} {p : List Byte} {r : Result}
    (refused : t.commonRefusal m c p.length = some r) (tag : Byte) :
    exec (commandRow c m tag p) s = .next (t.respond m tag c.code { status := r, payload := [] }) := by
  rw [exec_of_takenIn h, State.takeCommand_refused refused]

end Sys2Proof.Machine
end

