-- ==== Sys2Proof/Laws/Clock.lean ====
section
/-! SUPPORT. What settling takes: the events of a tick as the rows that name them, each due once, in an order that holds them all. -/

namespace Sys2Proof.Machine

/-! ### The events of a tick and their rows -/

/-- The row that names an event of a tick. -/
def eventRow : TickEvent → Instr
  | .dispatch => .dispatch
  | .deadlines => .deadlineReached
  | .lapse m => .lapse m
  | .periodEnd l => .periodEnd l
  | .highPartEnd l => .highPartEnd l
  | .edge i => .acceptedEdge i
  | .trip => .trip

theorem eventRow_injective : Function.Injective eventRow := by
  intro a b h
  cases a <;> cases b <;> simp_all [eventRow]

/-- A row that is due names an event of the tick. -/
theorem exists_event_of_dueRow {s : State} {i : Instr} (h : DueRow s i) : ∃ e, i = eventRow e := by
  cases i <;> first
    | exact h.elim
    | exact ⟨.dispatch, rfl⟩
    | exact ⟨.deadlines, rfl⟩
    | exact ⟨.lapse _, rfl⟩
    | exact ⟨.periodEnd _, rfl⟩
    | exact ⟨.highPartEnd _, rfl⟩
    | exact ⟨.edge _, rfl⟩
    | exact ⟨.trip, rfl⟩

theorem mem_allLines (l : Fin 16) : l ∈ allLines := by revert l; decide
theorem mem_allInputs (i : Fin 8) : i ∈ allInputs := by revert i; decide
theorem mem_masters (m : Master) : m ∈ masters := by cases m <;> decide

/-- The events due are those whose rows are due. -/
theorem mem_dueEvents (s : State) (e : TickEvent) : e ∈ s.dueEvents ↔ DueRow s (eventRow e) := by
  cases e with
  | dispatch => simp [State.dueEvents, eventRow, DueRow, State.dueEntries, List.isEmpty_iff]
  | deadlines => simp [State.dueEvents, eventRow, DueRow, State.expiredEntries, List.isEmpty_iff]
  | lapse m => 
    simp [State.dueEvents, eventRow, DueRow, mem_masters]
    cases h : s.session m <;> simp [State.lapseDue, h]
  | periodEnd l => simp [State.dueEvents, eventRow, DueRow, mem_allLines, State.periodEndDue, eq_comm (a := s.count)]
  | highPartEnd l =>
    have pos (h : BitVec 16) : 0 < h.toNat ↔ h ≠ 0#16 := by
      rw [Nat.pos_iff_ne_zero, Ne, Ne, ← BitVec.toNat_inj]; rfl
    simp [State.dueEvents, eventRow, DueRow, mem_allLines, State.highPartEndDue, eq_comm (a := s.count), and_assoc, pos]
  | edge i =>
    simp [State.dueEvents, eventRow, DueRow, mem_allInputs]
    unfold State.edgeDue
    split <;> simp_all
  | trip => simp [State.dueEvents, eventRow, DueRow, State.tripDue, and_assoc]

/-- No event is due twice at a tick. -/
theorem nodup_dueEvents (s : State) : s.dueEvents.Nodup := by
  have all : ([TickEvent.dispatch] ++ [TickEvent.deadlines] ++ masters.map TickEvent.lapse ++ allLines.map TickEvent.periodEnd ++
      allLines.map TickEvent.highPartEnd ++ allInputs.map TickEvent.edge ++ [TickEvent.trip]).Nodup := by decide
  refine all.sublist ?_
  have one {c : Bool} (e : TickEvent) : List.Sublist (if c then [] else [e]) [e] := by cases c <;> simp
  have one' {c : Bool} (e : TickEvent) : List.Sublist (if c then [e] else []) [e] := by cases c <;> simp
  exact (((((((one _).append (one _)).append ((List.filter_sublist).map _)).append ((List.filter_sublist).map _)).append
    ((List.filter_sublist).map _)).append ((List.filter_sublist).map _)).append (one' _))

/-- A free order holds every element once. -/
theorem perm_freeOrder {α : Type} (k : Nat) (l : List α) : (freeOrder k l).Perm l := by
  fun_induction freeOrder k l with
  | case1 => exact .refl _
  | case2 => exact .refl _
  | case3 x y ys ih =>
    refine (List.perm_insertIdx _ _ ?_).trans (ih.cons x)
    rw [ih.length_eq]
    exact Nat.le_of_lt_succ (Nat.mod_lt _ (by simp))

/-- No event of a tick draws. -/
@[simp] theorem State.draws_takeEvent (s : State) (e : TickEvent) : (s.takeEvent e).draws = s.draws := by
  cases e with
  | dispatch => exact draws_of_maskExec s.maskExec_dispatch
  | deadlines => exact draws_of_maskEdge s.maskEdge_expire
  | lapse m =>
    show (s.lapse m).draws = s.draws
    unfold State.lapse; split
    · show (State.tellPeers (((s.purge m .lapsed).setNotices m NoticeQueue.initial).notify m (lapsedNotice s (s.linesOwned m))) m).draws = s.draws
      refine draws_of_maskEdge (Eq.trans (maskEdge_of_maskExec ?_) (s.maskEdge_purge m .lapsed))
      rw [State.maskExec_tellPeers, State.maskExec_notify, State.maskExec_setNotices]
    · rfl
  | periodEnd l => exact draws_of_maskExec (s.maskExec_periodEnd l)
  | highPartEnd l => exact draws_of_maskExec (s.maskExec_highPartEnd l)
  | edge i => exact draws_of_maskEdge (s.maskEdge_takeEdge i)
  | trip =>
    show s.takeTripSample.draws = s.draws
    unfold State.takeTripSample; split
    · unfold State.sampleTrip; split
      · exact (draws_of_maskExec ((State.maskExec_notifyAll _ _).trans (State.maskExec_restAll _))).trans rfl
      · rfl
      · rfl
    · rfl

/-! ### Running the rows -/

/-- The row of an event takes that event. -/
theorem exec_eventRow {s : State} (high : s.pins.resetN = .high) {e : TickEvent} (low : e = .trip → s.pins.tripN = .low) :
    exec (eventRow e) s = .next (s.takeEvent e) := by
  cases e <;> simp only [eventRow, exec, execDispatch, execDeadlineReached, execLapse, execPeriodEnd, execHighPartEnd,
    execAcceptedEdge, execTrip, State.takeEvent]
  case trip =>
    have : s.setTripPin .low = s := by simp [State.setTripPin, ← low rfl]
    rw [this, State.unlessReset_of_high high]
  all_goals rw [State.unlessReset_of_high high]

/-- Events taken one after another are their rows, run one after another. -/
theorem runsTo_events {s : State} (high : s.pins.resetN = .high) (es : List TickEvent) (low : .trip ∈ es → s.pins.tripN = .low) :
    RunsTo (es.map eventRow) s (es.foldl (fun s e => s.takeEvent e) s) := by
  induction es generalizing s with
  | nil => rfl
  | cons e es ih =>
    have pins : (s.takeEvent e).pins = s.pins := pins_of_maskTick (s.maskTick_takeEvent e)
    refine ⟨_, exec_eventRow high (fun h => low (by simp [h])), ih (by rw [pins]; exact high) fun h => ?_⟩
    rw [pins]; exact low (by simp [h])

/-- A sample of the inputs changes the input records and the marks of the sample alone. -/
theorem State.takeInputSample_frame (s : State) :
    s.takeInputSample = { s with inputs := s.takeInputSample.inputs, sampled := s.takeInputSample.sampled, inputSampleDue := false } := by
  have fold (is : List (Fin 8)) (u : State) : is.foldl (fun s i => s.sampleInput i) u =
      { u with inputs := (is.foldl (fun s i => s.sampleInput i) u).inputs } := by
    induction is generalizing u with
    | nil => rfl
    | cons i is ih =>
      have one : u.sampleInput i = { u with inputs := (u.sampleInput i).inputs } := by unfold State.sampleInput; split <;> rfl
      rw [List.foldl_cons, ih, one]
  unfold State.takeInputSample
  split
  · unfold State.sampleInputs; rw [fold]
  · next h => simp only [Bool.not_eq_true] at h; rw [← h]

/-- INPUT_SAMPLE with the levels the pins have takes the sample alone. -/
theorem exec_inputSample_held {s : State} (high : s.pins.resetN = .high) : exec (.inputSample s.pins.inputs) s = .next s.takeInputSample := by
  show Host.Outcome.next ((s.setInputPins s.pins.inputs).unlessReset State.takeInputSample) = _
  rw [State.unlessReset_of_high (s := s.setInputPins s.pins.inputs) high]; rfl

/-- The samples of a tick are the rows that take them. -/
theorem runsTo_samples {s : State} (high : s.pins.resetN = .high) : RunsTo (sampleRows s) s s.takeSamples := by
  refine ⟨_, exec_inputSample_held high, ?_⟩
  have frame := s.takeInputSample_frame
  have pins : s.takeInputSample.pins = s.pins := by rw [frame]
  have trip : s.takeInputSample.trip = s.trip := by rw [frame]
  have due : s.takeInputSample.tripSampleDue = s.tripSampleDue := by rw [frame]
  unfold State.takeSamples
  simp only [State.tripDue, pins, trip, due]
  generalize s.takeInputSample = u at pins trip due
  cases v : s.pins.tripN with
  | high =>
    refine ⟨_, ?_, rfl⟩
    have same : u.setTripPin .high = u := by simp [State.setTripPin, ← v, ← pins]
    simp [exec, execRiseOfTripN, same, State.unlessReset_of_high (pins ▸ high : u.pins.resetN = .high)]
  | low =>
    by_cases h : s.tripSampleDue = true ∧ s.trip.state = .normal
    · simp [h, RunsTo]
    · simp only [h, if_false]
      refine ⟨_, ?_, rfl⟩
      have same : u.setTripPin .low = u := by simp [State.setTripPin, ← v, ← pins]
      simp [exec, execReAssertion, same, State.unlessReset_of_high (pins ▸ high : u.pins.resetN = .high)]
      intro a b; exact absurd ⟨a, b⟩ h

/-- Settling draws at most once, for the order of the events. -/
theorem State.draws_settle (s : State) : s.settle.draws = drawsAfter s.takeSamples.draws s.takeSamples.dueEvents :=
  foldl_keeps State.draws (fun (s : State) e => s.takeEvent e) (fun s e => s.draws_takeEvent e) _ _

/-- With nothing left to take, no row is due. -/
theorem not_dueRow_of_quiet {s : State} (h : Quiet s) (i : Instr) : ¬ DueRow s i := by
  intro d
  obtain ⟨e, rfl⟩ := exists_event_of_dueRow d
  exact absurd ((mem_dueEvents s e).mpr d) (by rw [h.2.2]; exact List.not_mem_nil)

end Sys2Proof.Machine
end

