-- ==== Sys2Proof/Laws/Operands.lean ====
section
/-! SUPPORT. What the operand forms, the frames' classes and the calendar's insertion give: one lemma for each thing a proof needs of them. -/

namespace Sys2Proof.Machine

/-! ### Fields of payloads -/

/-- Two neighbouring runs of bits make one run. -/
theorem extractLsb'_join {w : Nat} (x : BitVec w) (low n k : Nat) :
    x.extractLsb' (low + k) n ++ x.extractLsb' low k = x.extractLsb' low (n + k) :=
  BitVec.extractLsb'_append_extractLsb'_eq_extractLsb' rfl

/-- A 16-bit field reads as the value whose two bytes stand there. -/
theorem u16At_of_bytes {p : List Byte} {i : Nat} {x : BitVec 16} (h₀ : byteAt p i = x.extractLsb' 8 8)
    (h₁ : byteAt p (i + 1) = x.extractLsb' 0 8) : u16At p i = x := by
  rw [u16At, h₀, h₁]
  exact (extractLsb'_join x 0 8 8).trans BitVec.extractLsb'_eq_self

/-- A 24-bit field reads as the value whose three bytes stand there. -/
theorem u24At_of_bytes {p : List Byte} {i : Nat} {x : BitVec 24} (h₀ : byteAt p i = x.extractLsb' 16 8)
    (h₁ : byteAt p (i + 1) = x.extractLsb' 8 8) (h₂ : byteAt p (i + 2) = x.extractLsb' 0 8) : u24At p i = x := by
  rw [u24At, u16At, h₀, h₁, h₂]
  exact (congrArg (x.extractLsb' 16 8 ++ ·) (extractLsb'_join x 0 8 8)).trans
    ((extractLsb'_join x 0 8 16).trans BitVec.extractLsb'_eq_self)

/-- A 32-bit field reads as the value whose four bytes stand there. -/
theorem u32At_of_bytes {p : List Byte} {i : Nat} {x : BitVec 32} (h₀ : byteAt p i = x.extractLsb' 24 8)
    (h₁ : byteAt p (i + 1) = x.extractLsb' 16 8) (h₂ : byteAt p (i + 2) = x.extractLsb' 8 8)
    (h₃ : byteAt p (i + 3) = x.extractLsb' 0 8) : u32At p i = x := by
  rw [u32At, u16At, u16At, h₀, h₁, h₂, h₃]
  exact (congrArg₂ (· ++ ·) (extractLsb'_join x 16 8 8) (extractLsb'_join x 0 8 8)).trans
    ((extractLsb'_join x 0 16 16).trans BitVec.extractLsb'_eq_self)

@[simp] theorem u16At_bytes16 (x : BitVec 16) : u16At (bytes16 x) 0 = x := u16At_of_bytes rfl rfl

@[simp] theorem lineOfByte_countByte (l : Fin 16) : lineOfByte (countByte l.val) = l := by revert l; decide

theorem countByte_line_le (l : Fin 16) : ¬ 15#8 < countByte l.val := by revert l; decide

@[simp] theorem inputOfBits_countByte (i : Fin 8) : inputOfBits (countByte i.val) = i := by revert i; decide

theorem countByte_input_le (i : Fin 8) : ¬ 7#8 < countByte i.val := by revert i; decide

@[simp] theorem masterOfCode_masterCode (m : Master) : masterOfCode (masterCode m) = some m := by cases m <;> decide

@[simp] theorem edgeSelectOfCode_edgeSelectCode (k : EdgeSelect) : edgeSelectOfCode (edgeSelectCode k) = k := by cases k <;> decide

/-- The bits of a line byte, an input byte and a train byte, and the edge code, as numbers. -/
theorem lineOfByte_eq_ofNat (b : Byte) : lineOfByte b = Fin.ofNat 16 b.toNat := by revert b; decide

theorem inputOfBits_eq_ofNat (b : Byte) : inputOfBits b = Fin.ofNat 8 b.toNat := by revert b; decide

theorem toNat_edgeCode (f : PostFields) : f.edgeCode.toNat = f.triggerByte.toNat / 16 % 4 := by
  unfold PostFields.edgeCode; generalize f.triggerByte = b; revert b; decide

/-! ### Frames -/

/-- The CRC of a run takes its last byte by one more step. -/
theorem crc8_concat (bs : List Byte) (b : Byte) : crc8 (bs ++ [b]) = crcByte (crc8 bs) b := by simp [crc8]

/-- A byte equal to the remainder takes it to 0, so a run that ends with its own CRC has the remainder 0 (R187). -/
theorem crcByte_self (b : Byte) : crcByte b b = 0 := by simp [crcByte, crcShift]

/-- No command has a code outside the table. -/
theorem Command.ofCode_eq_none {code : Byte} (h : ∀ c : Command, c.code ≠ code) : Command.ofCode code = none := by
  unfold Command.ofCode
  have known (c : Command) : (code = c.code) = False := eq_false (fun e => h c e.symm)
  simp_all

@[simp] theorem Command.ofCode_code (c : Command) : Command.ofCode c.code = some c := by cases c <;> decide

/-- A frame whose length byte says how long its payload is, with a CRC byte after it, is complete; what follows is ignored. -/
theorem classifyFrame_complete (code tag crc : Byte) (payload extra : List Byte) (h : payload.length ≤ 255) :
    classifyFrame code tag (BitVec.ofNat 8 payload.length) (payload ++ crc :: extra) =
      .complete code tag payload (decide (crc8 ([code, tag, BitVec.ofNat 8 payload.length] ++ payload) = crc)) := by
  have hl : (BitVec.ofNat 8 payload.length).toNat = payload.length := by simp; omega
  unfold classifyFrame
  rw [hl, if_pos (by simp)]
  simp [byteAt]

/-! ### Served commands -/

/-- An ACTIVE master's command of the right length is served, unless it is a configuration command. -/
theorem commonRefusal_of_active {t : State} {m : Master} {c : Command} {n : Nat} (active : t.isActive m = true)
    (config : isConfigCommand t.configPort.isSome c = false) (length : ∀ k, fixedLength c = some k → n = k) :
    t.commonRefusal m c n = none := by
  obtain ⟨p, d, h⟩ : ∃ p d, t.session m = .active p d := by
    unfold State.isActive at active
    cases hs : t.session m <;> simp_all [Session.isActive]
  cases c <;> simp_all [State.commonRefusal, fixedLength, isConfigCommand, sessionNeedOf, sessionRefusal]

/-! ### The calendar -/

@[simp] theorem length_insertByDue (c : Word) (e : TimedEntry) (l : List TimedEntry) : (insertByDue c e l).length = l.length + 1 := by
  induction l with
  | nil => rfl
  | cons x xs ih => simp only [insertByDue]; split <;> simp [ih]

@[simp] theorem mem_insertByDue (c : Word) (e x : TimedEntry) (l : List TimedEntry) : x ∈ insertByDue c e l ↔ x = e ∨ x ∈ l := by
  induction l with
  | nil => simp [insertByDue]
  | cons y ys ih =>
    simp only [insertByDue]; split
    · simp
    · simp only [List.mem_cons, ih]; tauto

/-- An insertion leaves the entries already there in their order. -/
theorem perm_insertByDue (c : Word) (e : TimedEntry) (l : List TimedEntry) : (insertByDue c e l).Perm (e :: l) := by
  induction l with
  | nil => exact .refl _
  | cons y ys ih =>
    simp only [insertByDue]; split
    · exact .refl _
    · exact (ih.cons y).trans (.swap e y ys)

end Sys2Proof.Machine
end

