-- ==== Sys2Proof/WellFormed.lean ====
section
/-! DEFINITION. What a command must satisfy to be one the outside world can send. -/

namespace Sys2Proof

/-- The payload of a command row, where the row is a command (R170). -/
def Instr.payload? : Instr → Option (List Byte)
  | .nop _ _ p => some p
  | .time _ _ p => some p
  | .status _ _ p => some p
  | .openSession _ _ p => some p
  | .renew _ _ p => some p
  | .close _ _ p => some p
  | .claim _ _ p => some p
  | .release _ _ p => some p
  | .queryLine _ _ p => some p
  | .post _ _ p => some p
  | .cancel _ _ p => some p
  | .cancelLine _ _ p => some p
  | .queryEntry _ _ p => some p
  | .subscribe _ _ p => some p
  | .readCaptures _ _ p => some p
  | .readInputs _ _ p => some p
  | .readNotices _ _ p => some p
  | .clearTrip _ _ p => some p
  | .setQuota _ _ p => some p
  | .setSafe _ _ p => some p
  | .setInput _ _ p => some p
  | .resetDevice _ _ p => some p
  | .tick => none
  | .dispatch => none
  | .deadlineReached => none
  | .lapse _ => none
  | .periodEnd _ => none
  | .highPartEnd _ => none
  | .inputSample _ => none
  | .acceptedEdge _ => none
  | .trip => none
  | .reAssertion => none
  | .powerOn _ => none
  | .resetNAsserted => none
  | .resetNReleased _ => none
  | .spiFrameStart _ => none
  | .spiFrameEnd _ _ => none
  | .i2cAddress _ _ => none
  | .i2cWriteEnd _ => none
  | .i2cResponseDelivered => none
  | .i2cReadEnd _ => none
  | .stallTimeout _ => none
  | .riseOfTripN => none
  | .stopWhileNotAddressed => none

/-- A frame's length byte is 0 to 255 (R170), so no frame carries a longer payload. Every other operand is bounded by its type. -/
def Instr.wellFormed (i : Instr) : Bool :=
  match i.payload? with
  | some p => decide (p.length ≤ 255)
  | none => true

end Sys2Proof
end

