-- ==== Sys2Proof/Tests/Slice0.lean ====
section
/-! SUPPORT. The tests: the check on commands, worked examples of the spec, and for each statement with hypotheses a state and operands that meet
them (`witness_<statement>`), with one for each of its clauses where it has several. -/

namespace Sys2Proof.Tests

open Sys2Proof.Machine

/-! ### The states the tests use -/

/-- The part after its first tick's samples, all sessions CLOSED, no configuring port. -/
def calm : State := { State.reset with sampled := true, inputSampleDue := false, tripSampleDue := false }

/-- The same with RESET_N low. -/
def heldInReset : State := { calm with pins := { calm.pins with resetN := .low } }

/-- Every master ACTIVE with a lease of 1000 ticks, port A the configuring port. -/
def active : State := { calm with sessions := PerMaster.all (.active 1000 1000), configPort := some .a }

/-- As `active`, without a configuring port. -/
def undesignated : State := { active with configPort := none }

/-- Every master LAPSED, port A the configuring port. -/
def lapsedAll : State := { calm with sessions := PerMaster.all .lapsed, configPort := some .a }

/-- As `active`, with line 0 owned by A and waited for by B and C, line 1 owned by B. -/
def claimed : State :=
  (active.setLine 0 { LineRecord.initial with owner := some .a, waits := [.b, .c] }).setLine 1 { LineRecord.initial with owner := some .b }

/-- A train of 4 ticks, HIGH for 1, endless, with a fraction and an end notice. -/
def train : TrainRecord := { period := 4, fraction := 3, highTime := 1, pulses := 0, rest := .high, endNotice := true }

/-- An entry of A for line 0 with all its optional parts but a trigger. -/
def entry : EntryCore :=
  { ticket := 1, poster := .a, line := 0, action := .toggle, repeatPart := some { interval := 5, remaining := 2 }
    guardPart := some { input := 2, level := .high }, runLate := true, notify := true }

/-- An armed entry of A for line 0, waiting for a rise of input 3. -/
def armedEntry : ArmedEntry :=
  { core := { entry with ticket := 2, guardPart := none }, trigger := { input := 3, edge := .rise, delay := 10 }, deadline := some 20 }

/-- As `claimed`, with one entry TIMED and one ARMED. -/
def posted : State := { claimed with timed := [{ core := entry, due := 7 }], armed := [armedEntry], lastTicket := 2 }

/-- A generator in the state given, in a period of 4 ticks from the count 0, with one pulse left. -/
def generator (x : GenState) : Generator :=
  { state := x, current := { record := train, source := 9 }, staged := none, accumulator := 3, remaining := 1, periodStart := 0
    periodLength := 4 }

/-- As `claimed`, with the generator of line 0 in the state given. -/
def running (x : GenState) : State :=
  (claimed.setGen 0 (generator x)).setLine 0 { claimed.line 0 with mode := .train, level := .high }

/-- A response of NOP. -/
def answer : Response :=
  { status := .ok, tag := 1, code := 0, notices := false, captures := false, tripped := false, resent := false, payload := [] }

/-- What is sent of it. -/
def sending : Sending := { bytes := answer.bytes, holds := true }

/-- As `calm`, with a response held and being sent at the port of master `m`. -/
def holding (m : Master) : State := calm.setPort m { PortRecord.initial with response := some answer, sending := some sending }

/-- As `calm`, with a frame open at SPI port A. -/
def inFrame : State := (holding .a).setSpi .a { receive := .inFrame, select := .low }

/-- TRIPPED, with the last sample given and samples due. -/
def tripped (last : Level) : State :=
  { active with trip := { state := .tripped, count := 255, timestamp := 3, lastSample := last }, tripSampleDue := true }

/-- As `claimed`, TRIPPED. -/
def claimedTripped : State := { claimed with trip := { state := .tripped, count := 1, timestamp := 0, lastSample := .low } }

/-- A quiet state with RESET_N high takes a frame at a port that holds nothing. -/
theorem takenIn_of_quiet {s : State} {m : Master} (high : s.pins.resetN = .high) (quiet : Quiet s) (free : (s.port m).response = none) :
    TakenIn s m s := ⟨high, State.settle_of_quiet quiet, free⟩

theorem quiet_calm : Quiet calm := ⟨rfl, rfl, by decide⟩
theorem quiet_active : Quiet active := ⟨rfl, rfl, by decide⟩
theorem quiet_undesignated : Quiet undesignated := ⟨rfl, rfl, by decide⟩
theorem quiet_lapsedAll : Quiet lapsedAll := ⟨rfl, rfl, by decide⟩
theorem quiet_claimed : Quiet claimed := ⟨rfl, rfl, by decide⟩
theorem quiet_posted : Quiet posted := ⟨rfl, rfl, by decide⟩
theorem quiet_holding (m : Master) : Quiet (holding m) := quiet_calm

theorem takenIn_calm (m : Master) : TakenIn calm m calm := takenIn_of_quiet rfl quiet_calm (by cases m <;> rfl)
theorem takenIn_active (m : Master) : TakenIn active m active := takenIn_of_quiet rfl quiet_active (by cases m <;> rfl)
theorem takenIn_undesignated (m : Master) : TakenIn undesignated m undesignated :=
  takenIn_of_quiet rfl quiet_undesignated (by cases m <;> rfl)
theorem takenIn_lapsedAll (m : Master) : TakenIn lapsedAll m lapsedAll := takenIn_of_quiet rfl quiet_lapsedAll (by cases m <;> rfl)
theorem takenIn_claimed (m : Master) : TakenIn claimed m claimed := takenIn_of_quiet rfl quiet_claimed (by cases m <;> rfl)
theorem takenIn_posted (m : Master) : TakenIn posted m posted := takenIn_of_quiet rfl quiet_posted (by cases m <;> rfl)

/-- As `claimed`, with input 3 selecting rises. -/
def listening : State := claimed.setInput 3 { InputRecord.initial with select := .rise }

theorem takenIn_listening (m : Master) : TakenIn listening m listening :=
  takenIn_of_quiet rfl ⟨rfl, rfl, by decide⟩ (by cases m <;> rfl)

/-! ### The check on commands -/

theorem test_wellFormed_accepts_255_bytes : (Instr.post .a 0 (List.replicate 255 0)).wellFormed = true := by decide +kernel

theorem test_wellFormed_refuses_256_bytes : (Instr.post .a 0 (List.replicate 256 0)).wellFormed = false := by decide +kernel

theorem test_wellFormed_accepts_events : Instr.tick.wellFormed = true ∧ (Instr.lapse .b).wellFormed = true := by decide

/-! ### Worked examples of the spec -/

/-- The seven rows of the table of distances in chapter 1, by class. -/
theorem test_distance_table : classify 1000 1000 = .now ∧ classify 1000 1250 = .ahead ∧ classify 1000 900 = .behind ∧
    classify 4294967290 10 = .ahead ∧ classify 4294967290 4294967280 = .behind ∧ classify 0 2147483647 = .ahead ∧
    classify 0 2147483648 = .behind := by decide

theorem test_lateness_table : lateness 1000 900 = 100 ∧ lateness 4294967290 4294967280 = 10 ∧ distance 4294967290 10 = 16 := by decide

/-- The calendar orders by distance across the wrap: due 30 stands after 4,294,967,290 at the count 4,294,967,200. -/
theorem test_calendar_order_across_the_wrap :
    (insertByDue 4294967200 { core := entry, due := 30 } (insertByDue 4294967200 { core := entry, due := 4294967250 }
      [{ core := entry, due := 4294967290 }])).map TimedEntry.due = [4294967250, 4294967290, 30] := by decide

/-- R187: the CRC of 00 00 00 is 00, of 00 01 00 is 15. -/
theorem test_crc_examples : crc8 [0, 0, 0] = 0 ∧ crc8 [0, 1, 0] = 0x15 := by decide +kernel

/-- R187: 00 01 00 15 is a complete NOP with tag 1. -/
theorem test_nop_frame : classifySpi [0x00, 0x01, 0x00, 0x15] = .complete 0x00 0x01 [] true ∧ Command.ofCode 0x00 = some .nop := by decide +kernel

theorem test_short_frames : classifySpi [1, 2] = .empty ∧ classifyI2c [1, 2] = .aborted ∧ classifyI2c [] = .empty ∧
    classifySpi [1, 2, 0] = .aborted := by decide

theorem test_lease_ends : leaseTicks 0 10 = 20000 ∧ leaseTicks 0 60000 = 120000000 ∧ leaseTicks 3 10 = 100 := by decide

theorem test_unknown_code : Command.ofCode 0x03 = none := by decide

/-- The expected lengths of a POST: immediate, timed, and with every part an armed train can have. -/
theorem test_post_lengths : postLength 1 0x01 = 3 ∧ postLength 1 0x00 = 7 ∧ postLength 3 0x78 = 24 := by decide

/-- F = 8 from the accumulator 8 makes a long period. -/
theorem test_long_period : ((({ generator .running with accumulator := 8 } : Generator).newPeriod 0).accumulator = 11) ∧
    ((({ generator .running with accumulator := 14 } : Generator).newPeriod 0).periodLength = 5) := by decide

theorem test_ticket_wraps : ticketAfter 65535 = 1 ∧ ({ calm with lastTicket := 65535 } : State).nextTicket = 1 ∧ posted.nextTicket = 3 ∧
    ({ posted with lastTicket := 0 } : State).nextTicket = 3 := by decide

/-- Nine bytes of a notice, six of a capture. -/
theorem test_record_layouts :
    (Notice.bytes { kind := .granted, ticket := 0, line := some 3, detail := 1, timestamp := 258 }) = [9, 0, 0, 3, 1, 0, 0, 1, 2] ∧
    (CaptureRecord.bytes { input := 2, edge := .rise, gap := true, sequence := 7, timestamp := 1 }) = [0x92, 7, 0, 0, 0, 1] := by decide

theorem test_first_failed_checks :
    postCheck claimed .a [0, 1] = some .badLength ∧ postCheck claimed .a [0, 1, 0x81] = some .form ∧
    postCheck claimed .a [16, 1, 1] = some .range ∧ postCheck claimed .a [1, 1, 1] = some .notOwner ∧
    postCheck { posted with quotas := PerMaster.all 2 } .a [0, 1, 1] = some .quota ∧
    postCheck claimed .a [0, 1, 0, 255, 255, 255, 255] = some .late ∧
    postCheck claimed .a [0, 1, 0x20, 0x13, 0, 0, 10] = some .neverFires := by decide

theorem test_full_pool :
    postCheck { claimed with timed := List.replicate 64 { core := { entry with poster := .b }, due := 7 } } .a [0, 1, 0, 0, 0, 0, 5] =
      some .full := by decide

/-! ### One step of each family -/

/-- The state a row leaves. -/
def after (i : Instr) (s : State) : State :=
  match exec i s with
  | .next t => t
  | .fault _ => s
  | .refused _ => s

/-- The payload of the response pending at a port. -/
def payloadAt (s : State) (m : Master) : Option (Result × List Byte) := (s.port m).response.map fun r => (r.status, r.payload)

theorem test_claim_grants : ((after (.claim .b 7 [2, 0]) active).line 2).owner = some .b ∧
    payloadAt (after (.claim .b 7 [2, 0]) active) .b = some (.ok, [2, 2, 0]) := by decide +kernel

theorem test_claim_without_wait_is_owned : payloadAt (after (.claim .c 7 [1, 0]) claimed) .c = some (.owned, [1, 2, 0]) := by decide +kernel

theorem test_claim_with_wait_is_queued : payloadAt (after (.claim .c 7 [1, 1]) claimed) .c = some (.queued, [1, 2, 1]) := by decide +kernel

theorem test_release_hands_over : ((after (.release .a 7 [0]) posted).line 0).owner = some .b ∧
    payloadAt (after (.release .a 7 [0]) posted) .a = some (.ok, [2, 2]) ∧
    ((after (.release .a 7 [0]) posted).noticeQueue .b).queue.length = 1 := by decide +kernel

theorem test_post_immediate_drives_high : ((after (.post .a 7 [0, 1, 1]) claimed).line 0).level = .high ∧
    payloadAt (after (.post .a 7 [0, 1, 1]) claimed) .a = some (.ok, [0, 1, 3, 64, 0]) := by decide +kernel

theorem test_post_timed_enters_the_calendar : payloadAt (after (.post .a 7 [0, 1, 0, 0, 0, 0, 5]) claimed) .a = some (.ok, [0, 1, 1, 63, 1]) ∧
    ((after (.post .a 7 [0, 1, 0, 0, 0, 0, 5]) claimed).timed.map TimedEntry.due) = [5] := by decide +kernel

theorem test_dispatch_applies_and_reinserts :
    let s : State := { posted with count := 7, timed := [{ core := { entry with guardPart := none }, due := 7 }] }
    ((after .dispatch s).line 0).level = .high ∧ (after .dispatch s).timed.map TimedEntry.due = [12] := by decide +kernel

theorem test_cancel_removes : payloadAt (after (.cancel .a 7 [0, 2]) posted) .a = some (.ok, [2, 63, 1]) ∧
    (after (.cancel .a 7 [0, 2]) posted).armed = [] := by decide +kernel

theorem test_query_entry : payloadAt (after (.queryEntry .a 7 [0, 1]) posted) .a =
    some (.ok, [1, 0, 2, 0x1E, 0, 0, 0, 7, 0, 0, 0, 0, 0, 0, 5, 0, 2, 0x82]) := by decide +kernel

theorem test_deadline_times_out : (after .deadlineReached { posted with count := 20 }).armed = [] ∧
    ((after .deadlineReached { posted with count := 20 }).noticeQueue .a).queue.map Notice.kind = [.timeout] := by decide +kernel

theorem test_open_from_closed : (after (.openSession .a 7 [0, 10]) calm).session .a = .active 20000 20000 ∧
    payloadAt (after (.openSession .a 7 [0, 10]) calm) .a = some (.ok, [0, 0, 0, 0x4E, 0x20, 0, 0, 0x4E, 0x20]) := by decide +kernel

theorem test_lapse_hands_over : (after (.lapse .a) { posted with count := 1000 }).session .a = .lapsed ∧
    ((after (.lapse .a) { posted with count := 1000 }).line 0).owner = some .b ∧
    ((after (.lapse .a) { posted with count := 1000 }).noticeQueue .b).queue.map Notice.kind = [.granted, .peerLapsed] ∧
    (after (.lapse .a) { posted with count := 1000 }).timed = [] := by decide +kernel

theorem test_close_answers_what_it_gave_up : payloadAt (after (.close .a 7 []) posted) .a = some (.ok, [2, 1]) := by decide +kernel

theorem test_high_part_ends : ((after (.highPartEnd 0) { running .running with count := 1 }).line 0).level = .low := by decide +kernel

theorem test_train_ends_at_its_rest_level : ((after (.periodEnd 0) { running .running with count := 4 }).line 0).level = .high ∧
    ((after (.periodEnd 0) { running .running with count := 4 }).line 0).mode = .static ∧
    ((after (.periodEnd 0) { running .running with count := 4 }).noticeQueue .a).queue.map Notice.detail = [1] := by decide +kernel

/-- The sample that opens a candidate with filter length 0, and the edge accepted at once. -/
theorem test_edge_of_an_unfiltered_input :
    ((after (.inputSample 8) { listening with inputSampleDue := true }).input 3).filter = .candidate 0 true ∧
    ((after (.acceptedEdge 3) (listening.setInput 3 { listening.input 3 with raw := .high, filter := .candidate 0 true })).input 3).sequence = 1 := by
  decide +kernel

theorem test_trip_brings_lines_to_safe : ((after .trip { running .running with tripSampleDue := true }).line 0).level = .low ∧
    (after .trip { running .running with tripSampleDue := true }).gen 0 = Generator.idle := by decide +kernel

theorem test_clear_trip_waits_for_the_pin : payloadAt (after (.clearTrip .a 7 []) claimedTripped) .a = some (.tripActive, []) := by decide +kernel

theorem test_set_safe_drives_an_unowned_line : payloadAt (after (.setSafe .a 7 [5, 1]) active) .a = some (.ok, [5, 1, 1]) := by decide +kernel

theorem test_set_input : payloadAt (after (.setInput .a 7 [3, 1, 9]) active) .a = some (.ok, [3, 1, 9, 0]) := by decide +kernel

theorem test_frame_is_its_command :
    payloadAt (after (.spiFrameEnd .a [0x00, 0x01, 0x00, 0x15]) (calm.setSpi .a { receive := .inFrame, select := .low })) .a = some (.ok, []) := by
  decide +kernel

theorem test_stall_discards_a_write : (after (.stallTimeout 0) (calm.setI2c .write)).i2c = .idle ∧
    (after (.stallTimeout 0) (calm.setI2c .write)).stallTimeouts = 1 := by decide +kernel

theorem test_power_on_samples_the_straps : (after (.powerOn { cfg := 2, tick := 3, addr := 5 }) posted).configPort = some .b ∧
    (after (.powerOn { cfg := 2, tick := 3, addr := 5 }) posted).i2cAddress = 0x5D ∧
    (after (.powerOn { cfg := 2, tick := 3, addr := 5 }) posted).timed = [] := by decide +kernel

/-! ### Witnesses: the hypotheses of each statement hold together -/

theorem witness_StrapsHoldUntilTheNextReset :
    (∃ t, exec .dispatch calm = .next t) ∧ (∀ st, Instr.dispatch ≠ .powerOn st) ∧ (∀ st, Instr.dispatch ≠ .resetNReleased st) ∧
      heldInReset.pins.resetN = .low :=
  ⟨⟨_, rfl⟩, (fun _ h => nomatch h), (fun _ h => nomatch h), rfl⟩

theorem witness_TickAdvancesTheCount : calm.pins.resetN = .high ∧ State.reset.pins.resetN = .high ∧ Quiet calm := ⟨rfl, rfl, quiet_calm⟩

/-- A state in range in which a dispatch, an expiry, a lapse and a period end are due at once. -/
def crowded : State :=
  { running .running with
    timed := [{ core := entry, due := 4 }], armed := [{ armedEntry with deadline := some 4 }], count := 4
    sessions := PerMaster.all (.active 1000 4) }

theorem fieldsOk_crowded : FieldsOk crowded := by
  have range : entry.inRange := ⟨by decide, trivial, by intro r h; cases h; decide⟩
  have range' : armedEntry.core.inRange := ⟨by decide, trivial, by intro r h; cases h; decide⟩
  refine ⟨?_, ?_, ?_, ?_⟩
  · intro e h; cases List.mem_singleton.mp h; exact range
  · intro e h; cases List.mem_singleton.mp h; exact range'
  · intro l
    by_cases h : l = 0
    · subst h
      exact ⟨fun _ => ⟨by unfold TrainRecord.inRange; decide, by decide, by decide⟩, fun _ h => nomatch h⟩
    · have e : crowded.gen l = Generator.idle := by revert l; decide
      rw [e]; exact ⟨fun h => absurd rfl h, fun _ h => nomatch h⟩
  · intro m; cases m <;> decide

/-- Fields in range with events due; RESET_N HIGH with a row of every kind due, or none. -/
theorem witness_NothingDueIsHeldOver :
    (FieldsOk crowded ∧ ¬ Quiet crowded) ∧ crowded.pins.resetN = .high ∧ DueRow crowded .dispatch ∧ DueRow crowded .deadlineReached ∧
      DueRow crowded (.lapse .a) ∧ DueRow crowded (.periodEnd 0) ∧ DueRow { crowded with count := 1 } (.highPartEnd 0) ∧
      DueRow (calm.setInput 0 { InputRecord.initial with raw := .high, filter := .candidate 0 true }) (.acceptedEdge 0) ∧
      DueRow { State.reset with pins := { State.reset.pins with tripN := .low } } .trip ∧ ∀ i, ¬ DueRow calm i :=
  ⟨⟨fieldsOk_crowded, fun h => absurd h.2.2 (by decide)⟩, rfl, ⟨_, List.mem_singleton_self _, rfl⟩, ⟨_, List.mem_singleton_self _, rfl⟩,
    ⟨1000, rfl⟩, ⟨by decide, by decide⟩, ⟨by decide, by decide, by decide, by decide, by decide⟩, ⟨0, rfl⟩, ⟨rfl, rfl, rfl⟩,
    not_dueRow_of_quiet quiet_calm⟩

theorem witness_DistanceClassesATime :
    distance 1000 1000 = 0 ∧ distance 0 1 = 1 ∧ distance 0 2147483647 = 2147483647 ∧ distance 0 2147483648 = 2147483648 ∧
      distance 1 0 = 4294967295 := by decide

/-- No entry, deadline, lease or edge due; a generator IDLE, and one in a period whose end is not due; a high part that a period has not, that
fills it, or that is not at its end; each select level, each receive state of port C and RESET_N HIGH. -/
theorem witness_EventWithNothingDueChangesNothing :
    ((∀ e ∈ posted.timed, e.due ≠ posted.count) ∧ (∀ e ∈ posted.armed, e.deadline ≠ some posted.count) ∧
      (∀ p, posted.session .a ≠ .active p posted.count) ∧ ∀ e, (posted.input 0).filter ≠ .candidate e true) ∧
    (let g := (running .running).gen 0
     (posted.gen 0).state = .idle ∧ (running .running).count ≠ g.periodStart + BitVec.ofNat 32 g.periodLength ∧
      Generator.idle.current.record.highTime = 0 ∧
      ({ g with periodLength := 1 } : Generator).periodLength ≤ g.current.record.highTime.toNat ∧
      (running .running).count ≠ g.periodStart + g.current.record.highTime.setWidth 32) ∧
    (inFrame.spi .a).select = .low ∧ (calm.spi .a).select = .high ∧
      (calm.i2c ≠ .write ∧ calm.i2c ≠ .read ∧ calm.i2c ≠ .notAddressed) ∧ calm.pins.resetN = .high :=
  ⟨⟨by decide, by decide, (fun _ h => by cases h), (fun _ h => by cases h)⟩, by decide, rfl, rfl, by decide, rfl⟩

theorem witness_NothingIsTakenWhileResetNIsLow : heldInReset.pins.resetN = .low := rfl

theorem witness_ResetsLeaveEveryBlockAtItsResetValues : calm.pins.resetN = .high ∧ heldInReset.pins.resetN = .low := ⟨rfl, rfl⟩

theorem witness_ResetDeviceResetsAllButTheTimebase :
    TakenIn active .a active ∧ active.configPort = some .a ∧ active.session .a ≠ .lapsed := ⟨takenIn_active .a, rfl, by decide⟩

theorem witness_NopAnswersOkAndChangesNothing :
    TakenIn calm .a calm ∧ TakenIn active .b active ∧ TakenIn lapsedAll .c lapsedAll :=
  ⟨takenIn_calm .a, takenIn_active .b, takenIn_lapsedAll .c⟩

theorem witness_WrongLengthIsRefused :
    TakenIn calm .a calm ∧ (Command.nop, 0) ∈ [(Command.nop, 0), (Command.setInput, 3)] ∧ [(0 : Byte)].length ≠ 0 ∧
      [(0 : Byte), 0].length ≠ 3 := ⟨takenIn_calm .a, by decide, by decide, by decide⟩

/-- The four refusals: NOT_CONFIG of a configuration command and of CLEAR_TRIP, the session refusals, LAPSED at the configuring port. -/
theorem witness_ConfigurationAndSessionRefusals :
    (TakenIn calm .a calm ∧ calm.configPort ≠ some .a) ∧
    (TakenIn active .b active ∧ active.configPort = some .a ∧ Master.a ≠ .b) ∧
    (TakenIn calm .b calm ∧ calm.session .b = .closed ∧ calm.configPort = none) ∧
    (TakenIn lapsedAll .b lapsedAll ∧ lapsedAll.session .b = .lapsed) ∧
    (TakenIn lapsedAll .a lapsedAll ∧ lapsedAll.configPort = some .a ∧ lapsedAll.session .a = .lapsed) :=
  ⟨⟨takenIn_calm .a, by decide⟩, ⟨takenIn_active .b, rfl, by decide⟩, ⟨takenIn_calm .b, rfl, rfl⟩, ⟨takenIn_lapsedAll .b, rfl⟩,
    ⟨takenIn_lapsedAll .a, rfl, rfl⟩⟩

theorem witness_CollisionKeepsTheResponseAndSetsResent :
    (holding .a).pins.resetN = .high ∧ ((holding .a).settle.port .a).response = some answer := by
  rw [State.settle_of_quiet (quiet_holding .a)]; exact ⟨rfl, rfl⟩

/-- A fall with a response held and with none, a rise without a frame, a fall while RESET_N is low. -/
theorem witness_SpiFrameStartFixesWhatIsSent :
    ((holding .a).pins.resetN = .high ∧ ((holding .a).spi .a).select = .high ∧ ((holding .a).settle.port .a).response = some answer) ∧
    ((calm.spi .b).select = .high ∧ (calm.settle.port .b).response = none) ∧
    (calm.setSpi .a { receive := .idle, select := .low }).spi .a = { receive := .idle, select := .low } ∧
    (heldInReset.pins.resetN = .low ∧ heldInReset.spi .a = { receive := .idle, select := .high }) := by
  rw [State.settle_of_quiet (quiet_holding .a), State.settle_of_quiet quiet_calm]
  exact ⟨⟨rfl, rfl, rfl⟩, ⟨rfl, rfl⟩, rfl, rfl, rfl⟩

/-- An empty frame of 2 bytes, and one of 3 bytes, short of 4 + 0. -/
theorem witness_ShortSpiFrameTakesNothing :
    inFrame.pins.resetN = .high ∧ inFrame.spi .a = { receive := .inFrame, select := .low } ∧
      (inFrame.settle.port (portMaster .a)).sending = some sending ∧ [(0 : Byte), 1].length < 3 ∧
      3 ≤ [(0 : Byte), 1, 0].length ∧ [(0 : Byte), 1, 0].length < 4 + (byteAt [0, 1, 0] 2).toNat := by
  rw [State.settle_of_quiet (s := inFrame) quiet_calm]; exact ⟨rfl, rfl, rfl, by decide, by decide, by decide⟩

theorem witness_CompleteSpiFrameIsItsCommand :
    inFrame.pins.resetN = .high ∧ Quiet inFrame.settle ∧ inFrame.spi .a = { receive := .inFrame, select := .low } ∧
      (inFrame.settle.port (portMaster .a)).sending = some sending ∧ ([] : List Byte).length ≤ 255 := by
  rw [State.settle_of_quiet (s := inFrame) quiet_calm]; exact ⟨rfl, quiet_calm, rfl, rfl, by decide⟩

/-- A bad CRC and an unknown code, with no response held and with one, in a write and in an SPI frame: with 4 bytes received the response of 6
bytes is still held, with 6 it has been delivered. -/
theorem witness_BadCrcAndUnknownCodeAreAnswered :
    let s := (holding .c).setI2c .write
    let u := calm.setI2c .write
    (s.pins.resetN = .high ∧ s.i2c = .write ∧ (s.settle.port .c).response = some answer) ∧
    (u.pins.resetN = .high ∧ u.i2c = .write ∧ (u.settle.port .c).response = none) ∧
    (inFrame.pins.resetN = .high ∧ inFrame.spi .a = { receive := .inFrame, select := .low } ∧
      (inFrame.settle.port (portMaster .a)).sending = some sending ∧ (inFrame.settle.port (portMaster .a)).response = some answer ∧
      sending.holds = true ∧ ¬ sending.bytes.length ≤ 4 ∧ sending.bytes.length ≤ 6) ∧
    ([] : List Byte).length ≤ 255 ∧ (1 : Byte) ≠ crc8 [0, 0, 0] ∧ ∀ c : Command, c.code ≠ 0x03 := by
  intro s u
  rw [State.settle_of_quiet (s := s) quiet_calm, State.settle_of_quiet (s := u) quiet_calm, State.settle_of_quiet (s := inFrame) quiet_calm]
  exact ⟨⟨rfl, rfl, rfl⟩, ⟨rfl, rfl, rfl⟩, ⟨rfl, rfl, rfl, rfl, rfl, by decide, by decide⟩, by decide, by decide +kernel,
    by intro c; cases c <;> decide⟩

theorem witness_I2cAddressSelectsWriteOrRead :
    calm.pins.resetN = .high ∧ (calm.settle.port .c).response = none ∧ ((holding .c).settle.port .c).response = some answer ∧
      (0x59 : BitVec 7) ≠ calm.settle.i2cAddress := by
  rw [State.settle_of_quiet quiet_calm, State.settle_of_quiet (quiet_holding .c)]; exact ⟨rfl, rfl, rfl, by decide⟩

/-- No bytes, one byte, two, three short of four, and a whole NOP. -/
theorem witness_I2cWriteEndClassesTheBytes :
    let s := calm.setI2c .write
    (s.pins.resetN = .high ∧ s.i2c = .write ∧ Quiet s.settle) ∧
      (3 ≤ [(0 : Byte), 1, 0].length ∧ [(0 : Byte), 1, 0].length < 4 + (byteAt [0, 1, 0] 2).toNat) ∧
      [0x00, 0x01, 0x00, 0x15] = [Command.nop.code, 0x01, BitVec.ofNat 8 ([] : List Byte).length] ++ [] ++
        [crc8 ([Command.nop.code, 0x01, BitVec.ofNat 8 ([] : List Byte).length] ++ [])] ++ [] := by
  intro s
  rw [State.settle_of_quiet (s := s) quiet_calm]
  exact ⟨⟨rfl, rfl, quiet_calm⟩, by decide, by decide +kernel⟩

theorem witness_I2cReadsStallsAndStops :
    let s := (holding .c).setI2c .read
    (s.pins.resetN = .high ∧ s.i2c = .read ∧ (s.port .c).sending = some sending ∧ (s.port .c).bytesSent ≤ sending.bytes.length) ∧
      (calm.setI2c .write).i2c = .write ∧ calm.i2c = .idle ∧ (calm.setI2c .notAddressed).i2c = .notAddressed :=
  ⟨⟨rfl, rfl, rfl, by decide⟩, rfl, rfl, rfl⟩

theorem witness_TimeAnswersTheCount : TakenIn calm .a calm ∧ TakenIn lapsedAll .b lapsedAll := ⟨takenIn_calm .a, takenIn_lapsedAll .b⟩

theorem witness_StatusAnswersTheStanding : TakenIn posted .a posted ∧ TakenIn calm .c calm := ⟨takenIn_posted .a, takenIn_calm .c⟩

/-- The ends of the range of milliseconds, in each session state. -/
theorem witness_OpenAndRenewSetTheLease :
    (TakenIn calm .a calm ∧ calm.session .a = .closed) ∧ (TakenIn active .a active ∧ active.session .a = .active 1000 1000) ∧
    (TakenIn lapsedAll .a lapsedAll ∧ lapsedAll.session .a = .lapsed) ∧
    (10 ≤ (10 : BitVec 16).toNat ∧ (20000 : Word).toNat = (10 : BitVec 16).toNat * 2000) ∧
    ((60000 : BitVec 16).toNat ≤ 60000 ∧ (120000000 : Word).toNat = (60000 : BitVec 16).toNat * 2000) ∧ calm.tickUnit = 0 :=
  ⟨⟨takenIn_calm .a, rfl⟩, ⟨takenIn_active .a, rfl⟩, ⟨takenIn_lapsedAll .a, rfl⟩, by decide, by decide, rfl⟩

theorem witness_CloseAndLapsePurgeTheMaster :
    (TakenIn posted .a posted ∧ posted.isActive .a = true) ∧
      (crowded.pins.resetN = .high ∧ crowded.session .a = .active 1000 crowded.count) := ⟨⟨takenIn_posted .a, rfl⟩, rfl, rfl⟩

/-- The six rows of the table of CLAIM: unowned, own, another's with the requester not waiting and waiting, each without and with the flag. -/
theorem witness_ClaimFollowsItsTable :
    TakenIn claimed .a claimed ∧ TakenIn claimed .b claimed ∧ claimed.isActive .a = true ∧ claimed.isActive .b = true ∧
      (claimed.line 2).owner = none ∧ (claimed.line 0).owner = some .a ∧ ((claimed.line 1).owner = some .b ∧ Master.a ∉ (claimed.line 1).waits) ∧
      (Master.a ≠ .b ∧ Master.b ∈ (claimed.line 0).waits) :=
  ⟨takenIn_claimed .a, takenIn_claimed .b, rfl, rfl, by decide, by decide, by decide, by decide⟩

theorem witness_ReleaseReturnsTheLineOrWithdrawsTheWait :
    TakenIn claimed .a claimed ∧ TakenIn claimed .b claimed ∧ claimed.isActive .a = true ∧ claimed.isActive .b = true ∧
      ((claimed.line 1).owner = some .b ∧ (claimed.line 1).waits = []) ∧
      ((claimed.line 0).owner = some .a ∧ (claimed.line 0).waits = .b :: [.c]) ∧
      ((claimed.line 0).owner ≠ some .b ∧ Master.b ∈ (claimed.line 0).waits) ∧
      ((claimed.line 1).owner ≠ some .a ∧ Master.a ∉ (claimed.line 1).waits) :=
  ⟨takenIn_claimed .a, takenIn_claimed .b, rfl, rfl, by decide, by decide, by decide, by decide⟩

theorem witness_QueryLineDescribesTheLine : TakenIn claimed .a claimed ∧ TakenIn calm .c calm := ⟨takenIn_claimed .a, takenIn_calm .c⟩

/-- Each field one past its range. -/
theorem witness_OutOfRangeFieldIsRefused :
    TakenIn active .a active ∧ active.isActive .a = true ∧ active.configPort = some .a ∧ active.session .a ≠ .lapsed ∧
      (9 : BitVec 16).toNat < 10 ∧ 60000 < (60001 : BitVec 16).toNat ∧ 15 < (16 : Byte).toNat ∧ 1 < (2 : Byte).toNat ∧
      5 < (6 : Byte).toNat ∧ 3 < (4 : Byte).toNat ∧ 64 < (65 : Byte).toNat ∧ 7 < (8 : Byte).toNat ∧ 16 < (17 : Byte).toNat :=
  ⟨takenIn_active .a, rfl, rfl, by decide⟩

theorem witness_ActionsActOnTheirLine :
    (claimed.gen 0).state = .idle ∧ ((running .running).gen 0).state = .running ∧ ((running .stopping).gen 0).state = .stopping := by decide

/-- A period end of a stopping train, with a staged record, endless, with 2 pulses left and with 1; the end of a high part. -/
theorem witness_PeriodAndHighPartEndsFollowTheirTable :
    let s (g : Generator) : State := ({ claimed with count := 4 } : State).setGen 0 g
    (s (generator .stopping)).count = ((s (generator .stopping)).gen 0).periodStart + BitVec.ofNat 32 ((s (generator .stopping)).gen 0).periodLength ∧
    ((s (generator .stopping)).gen 0).state = .stopping ∧
    ((s { generator .running with staged := some TrainJob.zero }).gen 0).staged = some TrainJob.zero ∧
    ((s { generator .running with remaining := 0 }).gen 0).remaining = 0 ∧
    2 ≤ ((s { generator .running with remaining := 2 }).gen 0).remaining.toNat ∧
    (((s (generator .running)).gen 0).state = .running ∧ ((s (generator .running)).gen 0).staged = none ∧
      ((s (generator .running)).gen 0).remaining = 1) ∧
    (0 < (generator .running).current.record.highTime.toNat ∧
      (generator .running).current.record.highTime.toNat < (generator .running).periodLength ∧
      (1 : Word) = (generator .running).periodStart + (generator .running).current.record.highTime.setWidth 32) := by decide

theorem witness_SixteenPeriodsCarryTheFraction : Generator.idle.accumulator = 0 := rfl

theorem witness_PostIsRefusedByItsFirstFailedCheck :
    TakenIn claimed .a claimed ∧ claimed.isActive .a = true ∧ postCheck claimed .a [1, 1, 1] = some .notOwner :=
  ⟨takenIn_claimed .a, rfl, by decide⟩

/-- An armed POST, and a timed POST with its due time 5 ticks ahead. -/
theorem witness_PostLeavesATimedOrArmedEntry :
    (TakenIn listening .a listening ∧ listening.isActive .a = true ∧ postCheck listening .a [0, 1, 0x20, 0x13, 0, 0, 10] = none ∧
      (postFields [0, 1, 0x20, 0x13, 0, 0, 10]).flags.getLsbD 5 = true) ∧
    (TakenIn claimed .a claimed ∧ claimed.isActive .a = true ∧ postCheck claimed .a [0, 1, 0, 0, 0, 0, 5] = none ∧
      (postFields [0, 1, 0, 0, 0, 0, 5]).flags.getLsbD 5 = false ∧ (postFields [0, 1, 0, 0, 0, 0, 5]).flags.getLsbD 0 = false ∧
      classify claimed.count (postFields [0, 1, 0, 0, 0, 0, 5]).due = .ahead) :=
  ⟨⟨takenIn_listening .a, rfl, by decide, by decide⟩, takenIn_claimed .a, rfl, by decide, by decide, by decide, by decide⟩

/-- An immediate POST without a repeat part; one with it, behind under RUN_LATE, its guard not met; one that meets a tripped part. -/
theorem witness_PostExecutesAtTheTaking :
    (TakenIn claimed .a claimed ∧ claimed.isActive .a = true ∧ claimed.trip.state = .normal ∧ postCheck claimed .a [0, 1, 1] = none ∧
      (postFields [0, 1, 1]).flags.getLsbD 5 = false ∧ (postFields [0, 1, 1]).flags.getLsbD 0 = true ∧
      (postFields [0, 1, 1]).flags.getLsbD 3 = false) ∧
    (let p := [0, 1, 0x1C, 0xFF, 0xFF, 0xFF, 0xFF, 0, 0, 5, 0, 0, 0x82]
     postCheck claimed .a p = none ∧ classify claimed.count (postFields p).due = .behind ∧ (postFields p).flags.getLsbD 3 = true ∧
      (postFields p).executions ≠ 1 ∧
      ∃ g, ((postFields p).core 1 .a).guardPart = some g ∧ (claimed.input g.input).filtered ≠ g.level) ∧
    (TakenIn claimedTripped .a claimedTripped ∧ claimedTripped.isActive .a = true ∧ postCheck claimedTripped .a [0, 1, 1] = none ∧
      claimedTripped.trip.state = .tripped) :=
  ⟨⟨takenIn_claimed .a, rfl, rfl, by decide, by decide, by decide, by decide⟩,
    ⟨by decide, by decide, by decide, by decide, { input := 2, level := .high }, by decide, by decide⟩,
    takenIn_of_quiet rfl ⟨rfl, rfl, by decide⟩ rfl, rfl, by decide, rfl⟩

theorem witness_TicketsAndCalendarOrder :
    posted.timed.length + posted.armed.length ≤ 64 ∧ (posted.timed.Pairwise fun x y => distance posted.count x.due ≤ distance posted.count y.due) :=
  ⟨by decide, .cons (by intro x h; cases h) .nil⟩

/-- An unknown ticket, an own one TIMED and one ARMED, and another's. -/
theorem witness_CancelAndCancelLineRemoveEntries :
    TakenIn posted .a posted ∧ TakenIn posted .b posted ∧ posted.isActive .a = true ∧ posted.isActive .b = true ∧ posted.tickets.Nodup ∧
      (9 : Ticket) ∉ posted.tickets ∧ (∃ e ∈ posted.timed, e.core.ticket = 1 ∧ e.core.poster = .a) ∧
      (∃ e ∈ posted.armed, e.core.ticket = 2 ∧ e.core.poster = .a) ∧ ∃ e ∈ posted.armed, e.core.ticket = 2 ∧ e.core.poster ≠ .b :=
  ⟨takenIn_posted .a, takenIn_posted .b, rfl, rfl, by decide, by decide, by decide, by decide, by decide⟩

theorem witness_QueryEntryDescribesTheEntry :
    TakenIn posted .a posted ∧ posted.isActive .a = true ∧ posted.tickets.Nodup ∧
      (9 : Ticket) ∉ posted.tickets ∧ (∃ e ∈ posted.timed, e.core.ticket = 1 ∧ e.core.poster = .a) ∧
      (∃ e ∈ posted.armed, e.core.ticket = 2 ∧ e.core.poster = .a) ∧ ∃ e ∈ posted.timed, e.core.ticket = 1 ∧ e.core.poster ≠ .b :=
  ⟨takenIn_posted .a, rfl, by decide, by decide, by decide, by decide, by decide⟩

theorem witness_ConfigurationSetsItsOneSetting :
    TakenIn active .a active ∧ active.configPort = some .a ∧ active.session .a ≠ .lapsed ∧ 1 ≤ (1 : Byte).toNat ∧ (64 : Byte).toNat ≤ 64 :=
  ⟨takenIn_active .a, rfl, by decide, by decide, by decide⟩

/-- An entry whose poster does not own its line; one skipped, one suppressed, one applied; a repeat at its last execution, endless, and with two left. -/
theorem witness_ExecutionGoesThroughItsSteps :
    (claimed.line entry.line).owner = some entry.poster ∧ (claimed.line 1).owner ≠ some entry.poster ∧
      (∃ g, entry.guardPart = some g ∧ (claimed.input g.input).filtered ≠ g.level) ∧
      (¬ ∃ g, armedEntry.core.guardPart = some g ∧ (claimed.input g.input).filtered ≠ g.level) ∧ claimed.trip.state = .normal ∧
      (claimedTripped.trip.state = .tripped ∧ (claimedTripped.line armedEntry.core.line).owner = some armedEntry.core.poster) ∧
      entry.repeatPart = some { interval := 5, remaining := 2 } :=
  ⟨by decide, by decide, ⟨{ input := 2, level := .high }, rfl, by decide⟩, (fun ⟨_, h, _⟩ => nomatch h), rfl, ⟨rfl, by decide⟩, rfl⟩

theorem witness_DispatchAndExpiryTakeWhatIsDue :
    crowded.pins.resetN = .high ∧ (∃ e ∈ crowded.timed, e.due = crowded.count) ∧ ∃ e ∈ crowded.armed, e.deadline = some crowded.count :=
  ⟨rfl, by decide, by decide⟩

/-- The first sample; a filter that stays STABLE, one that begins a candidate, one that holds a candidate; a sample already taken. -/
theorem witness_InputSampleRunsTheFilters :
    (State.reset.pins.resetN = .high ∧ State.reset.inputSampleDue = true ∧ State.reset.sampled = false) ∧
    (calm.sampled = true ∧ (calm.input 0).filtered = .low ∧ (calm.input 0).filter = .stable ∧ Level.high ≠ (calm.input 0).filtered) ∧
    ((calm.setInput 0 { InputRecord.initial with raw := .high, filter := .candidate 0 false }).input 0).filter = .candidate 0 false ∧
    calm.inputSampleDue = false := by decide

/-- An accepted edge outstanding that the select leaves out, and one that it includes. -/
theorem witness_AcceptedEdgeIsRecordedAndOffered :
    let s (k : EdgeSelect) : State := calm.setInput 0 { InputRecord.initial with select := k, raw := .high, filter := .candidate 0 true }
    (s .fall).pins.resetN = .high ∧ ((s .fall).input 0).filter = .candidate 0 true ∧ ((s .rise).input 0).filter = .candidate 0 true ∧
      ((s .rise).input 0).select = .rise ∧ ((s .rise).input 0).filtered = .low ∧ ((s .fall).input 0).select = .fall := by decide

theorem witness_DeliveryStoresOrCountsTheLoss :
    let r : CaptureRecord := { input := 0, edge := .rise, gap := false, sequence := 0, timestamp := 0 }
    ({ CaptureState.initial with queue := List.replicate 15 r } : CaptureState).queue.length < 16 ∧
      16 ≤ ({ CaptureState.initial with queue := List.replicate 16 r } : CaptureState).queue.length := by decide

/-- Conversions ahead, now, and behind under either policy. -/
theorem witness_OfferConvertsTheMatchingEntries :
    classify 0 (0 + armedEntry.trigger.delay.setWidth 32) = .ahead ∧ classify 10 (0 + armedEntry.trigger.delay.setWidth 32) = .now ∧
      classify 11 (0 + armedEntry.trigger.delay.setWidth 32) = .behind ∧ armedEntry.core.runLate = true ∧
      ({ armedEntry.core with runLate := false } : EntryCore).runLate = false := by decide

theorem witness_SubscribeAndReadInputs :
    TakenIn active .a active ∧ active.isActive .a = true ∧ 1 ≤ (1 : Byte).toNat ∧ (16 : Byte).toNat ≤ 16 :=
  ⟨takenIn_active .a, rfl, by decide, by decide⟩

theorem witness_ReadsRemoveTheOldestRecords :
    TakenIn active .a active ∧ active.isActive .a = true ∧ (5 : Byte).toNat ≤ 5 ∧ (3 : Byte).toNat ≤ 3 ∧ 1 ≤ (1 : Byte).toNat :=
  ⟨takenIn_active .a, rfl, by decide, by decide, by decide⟩

/-- A master not ACTIVE; an ACTIVE one with 15 notices, and with 16. -/
theorem witness_NoticeReachesActiveMasterOnly :
    let n : Notice := { kind := .done, ticket := 1, line := some 0, detail := 0, timestamp := 0 }
    let s (k : Nat) : State := active.setNotices .a { queue := List.replicate k n, lost := 0 }
    calm.isActive .a = false ∧ (s 15).isActive .a = true ∧ ((s 15).noticeQueue .a).queue.length < 16 ∧
      16 ≤ ((s 16).noticeQueue .a).queue.length := by decide

/-- Both rows of a low sample. -/
theorem witness_LowSampleTripsThePart :
    Instr.trip ∈ [Instr.trip, .reAssertion] ∧ Instr.reAssertion ∈ [Instr.trip, .reAssertion] ∧
      State.reset.pins.resetN = .high ∧ State.reset.tripSampleDue = true ∧ State.reset.trip.state = .normal := by decide

/-- A low sample, by either row, after a high one and after a low one, at the count 255; a high sample in each trip state; a sample already
taken. -/
theorem witness_SamplesWhileTripped :
    (Instr.trip ∈ [Instr.trip, .reAssertion] ∧ Instr.reAssertion ∈ [Instr.trip, .reAssertion]) ∧
    ((tripped .high).pins.resetN = .high ∧ (tripped .high).tripSampleDue = true ∧ (tripped .high).trip.state = .tripped) ∧
      (tripped .low).trip.lastSample = .low ∧ (tripped .high).trip.count = 255 ∧
      (State.reset.tripSampleDue = true ∧ State.reset.trip.state = .normal) ∧ calm.tripSampleDue = false := by decide

/-- The three answers, at the configuring port and, with none designated, at an ACTIVE master's. -/
theorem witness_ClearTripFollowsItsTable :
    let s (v : Level) : State := { tripped v with tripSampleDue := false }
    (TakenIn active .a active ∧ active.configPort = some .a ∧ active.session .a ≠ .lapsed ∧ active.trip.state = .normal) ∧
    (TakenIn (s .low) .a (s .low) ∧ (s .low).trip.state = .tripped ∧ (s .low).trip.lastSample = .low) ∧
    (TakenIn (s .high) .a (s .high) ∧ (s .high).trip.state = .tripped ∧ (s .high).trip.lastSample = .high) ∧
    (TakenIn undesignated .b undesignated ∧ undesignated.configPort = none ∧ undesignated.isActive .b = true) :=
  ⟨⟨takenIn_active .a, rfl, by decide, rfl⟩, ⟨takenIn_of_quiet rfl ⟨rfl, rfl, by decide⟩ rfl, rfl, rfl⟩,
    ⟨takenIn_of_quiet rfl ⟨rfl, rfl, by decide⟩ rfl, rfl, rfl⟩, takenIn_undesignated .b, rfl, rfl⟩

/-- `posted` with a period end at the front of its queue. -/
def queued : State := { posted with pending := [.periodEnd 0] }

theorem witness_every_step_completes : ∃ t, step queued = .next t := ⟨_, rfl⟩

theorem witness_StepKeepsThePoolWithinItsSlots : PoolOk queued := ⟨by decide, by decide, by decide⟩

theorem witness_StepKeepsFieldsInRange : FieldsOk crowded ∧ ∃ t, step crowded = .next t := ⟨fieldsOk_crowded, _, rfl⟩

theorem witness_StepKeepsPostersOwnersAndWaiters : EntriesOwned queued ∧ OwnersOk queued := by
  refine ⟨⟨by decide, by decide⟩, ?_⟩
  intro l; revert l
  have h : ∀ l : Fin 16, (∀ m, (claimed.line l).owner = some m → claimed.isActive m = true) ∧
      (∀ m ∈ (claimed.line l).waits, claimed.isActive m = true ∧ (claimed.line l).owner ≠ some m) ∧
      (claimed.line l).waits.Nodup ∧ ((claimed.line l).owner = none → (claimed.line l).waits = []) := by
    intro l
    refine ⟨fun m _ => by cases m <;> rfl, ?_⟩
    revert l; decide
  exact h

theorem witness_StepKeepsLinesAndGeneratorsInStep : LinesOk (running .running) := by
  unfold LinesOk; decide

theorem witness_StepKeepsHoldingsFiltersAndPorts : HoldingsOk active ∧ FiltersOk active ∧ PortsOk (holding .a) := by
  refine ⟨?_, by unfold FiltersOk; decide, ?_, ?_, ?_⟩
  · intro m; cases m <;> exact ⟨by decide, by decide, (fun h => by cases h), (fun h => by cases h), (fun h => by cases h)⟩
  · intro m r h; cases m <;> cases h; decide
  · intro m x h; cases m <;> cases h; decide
  · intro p _; cases p <;> rfl

theorem witness_NoTimeIsEverPassedOver : FieldsOk { posted with count := 1 } ∧ TimesOk { posted with count := 1 } := by
  have range : entry.inRange := ⟨by decide, trivial, by intro r h; cases h; decide⟩
  have range' : armedEntry.core.inRange := ⟨by decide, trivial, by intro r h; cases h; decide⟩
  refine ⟨⟨?_, ?_, ?_, ?_⟩, .cons (by intro x h; cases h) .nil, ?_, ?_, ?_, ?_⟩
  · intro e h; cases List.mem_singleton.mp h; exact range
  · intro e h; cases List.mem_singleton.mp h; exact range'
  · intro l
    have e : ({ posted with count := 1 } : State).gen l = Generator.idle := by revert l; decide
    rw [e]; exact ⟨fun h => absurd rfl h, fun _ h => nomatch h⟩
  · intro m; cases m <;> decide
  · intro e h; cases List.mem_singleton.mp h; decide
  · intro e h d hd; cases List.mem_singleton.mp h; cases hd; decide
  · intro m p d h; cases m <;> cases h <;> decide
  · intro l h
    have e : ({ posted with count := 1 } : State).gen l = Generator.idle := by revert l; decide
    rw [e] at h; exact absurd rfl h

end Sys2Proof.Tests
end

section
/-! PROOFS. The distance of a time and its class (R3), and TIME (R9). -/

namespace Sys2Proof.Machine

/-! ### Distance and class -/

/-- The distance as arithmetic of the two values: T + 2^32 − C never underflows, so its remainder is (T − C) modulo 2^32 (R3). -/
theorem distance_eq_mod (c t : Word) : distance c t = (t.toNat + 4294967296 - c.toNat) % 4294967296 := by
  have : c.toNat < 4294967296 := c.isLt
  rw [distance, BitVec.toNat_sub]
  omega

theorem classify_eq_now {c t : Word} (h : distance c t = 0) : classify c t = .now := by
  rw [classify, if_pos h]

theorem classify_eq_ahead {c t : Word} (pos : 1 ≤ distance c t) (half : distance c t ≤ 2147483647) : classify c t = .ahead := by
  rw [classify, if_neg (Nat.ne_of_gt pos), if_pos (Nat.lt_succ_of_le half)]

theorem classify_eq_behind {c t : Word} (half : 2147483648 ≤ distance c t) : classify c t = .behind := by
  rw [classify, if_neg (by omega), if_neg (Nat.not_lt.mpr half)]

/-- A tick brings a time one nearer; a time that is now goes round to the far end. The count itself may wrap at the tick (R1, R3). -/
theorem distance_tick (c t : Word) : distance (c + 1) t = if distance c t = 0 then 4294967295 else distance c t - 1 := by
  have count_lt : c.toNat < 4294967296 := c.isLt
  have time_lt : t.toNat < 4294967296 := t.isLt
  have tick : (c + 1).toNat = (c.toNat + 1) % 4294967296 := BitVec.toNat_add c 1
  rw [distance_eq_mod, distance_eq_mod, tick]
  split <;> omega

/-! ### Commands refused for their length, commands served in every session state -/

/-- A payload of another length than the command's fixed one is refused first, whoever sends it (R181). -/
theorem commonRefusal_of_length_ne {c : Command} {k n : Nat} (fixed : fixedLength c = some k) (h : n ≠ k) (t : State) (m : Master) :
    t.commonRefusal m c n = some .badLength := by
  simp [State.commonRefusal, fixed, h]

/-- A command open to every session state, of its fixed length and no configuration command, is served at every port (R139, R181). -/
theorem commonRefusal_of_any {t : State} {c : Command} {k : Nat} (fixed : fixedLength c = some k)
    (config : isConfigCommand t.configPort.isSome c = false) (any : sessionNeedOf t.configPort.isSome c = .any) (m : Master) :
    t.commonRefusal m c k = none := by
  simp [State.commonRefusal, fixed, config, any, sessionRefusal]

end Sys2Proof.Machine
end

section

open Sys2Proof Sys2Proof.Machine

/-- Settles O6: the distance is plain arithmetic modulo 2^32, from which its classes and the effect of a tick follow. -/
theorem distanceClassesATime : Obligations.DistanceClassesATime := by
  intro c t
  exact ⟨distance_eq_mod c t, classify_eq_now, classify_eq_ahead, classify_eq_behind, distance_tick c t⟩

/-- Settles O23: with no payload no common refusal applies to TIME, and its block answers; with any payload the length is refused. -/
theorem timeAnswersTheCount : Obligations.TimeAnswersTheCount := by
  intro s t m tag taken
  constructor
  · exact exec_of_served taken (c := .time) (p := []) (commonRefusal_of_any rfl rfl rfl m) tag
  · intro p nonempty
    have length : p.length ≠ 0 := mt List.eq_nil_of_length_eq_zero nonempty
    exact exec_of_refused taken (c := .time) (commonRefusal_of_length_ne rfl length t m) tag

end

section
/-! PROOFS. The lengths of a generator's periods over a run of one record (R91, R92). -/

namespace Sys2Proof.Machine

/-! ### One period -/

@[simp] theorem Generator.newPeriod_current (g : Generator) (t : Word) : (g.newPeriod t).current = g.current := rfl

@[simp] theorem Generator.newPeriod_periodLength (g : Generator) (t : Word) :
    (g.newPeriod t).periodLength = g.current.record.period.toNat + (if g.carries then 1 else 0) := rfl

@[simp] theorem Generator.newPeriod_accumulator_toNat (g : Generator) (t : Word) :
    (g.newPeriod t).accumulator.toNat = (g.accumulator.toNat + g.current.record.fraction.toNat) % 16 :=
  BitVec.toNat_add g.accumulator g.current.record.fraction

theorem Generator.carries_iff (g : Generator) :
    g.carries = true ↔ 16 ≤ g.accumulator.toNat + g.current.record.fraction.toNat := decide_eq_true_iff

/-! ### A run of periods -/

/-- The generator after `k` more periods of its current record. Only the period start depends on the tick, so one tick serves for all. -/
def Generator.afterPeriods (g : Generator) (t : Word) (k : Nat) : Generator := (fun h => h.newPeriod t)^[k] g

@[simp] theorem Generator.afterPeriods_zero (g : Generator) (t : Word) : g.afterPeriods t 0 = g := rfl

theorem Generator.afterPeriods_succ (g : Generator) (t : Word) (k : Nat) :
    g.afterPeriods t (k + 1) = (g.afterPeriods t k).newPeriod t :=
  Function.iterate_succ_apply' _ k g

@[simp] theorem Generator.afterPeriods_current (g : Generator) (t : Word) (k : Nat) : (g.afterPeriods t k).current = g.current := by
  induction k with
  | zero => rfl
  | succ k ih => rw [g.afterPeriods_succ, newPeriod_current, ih]

/-- Each period adds F, modulo 16 (R91). -/
theorem Generator.afterPeriods_accumulator_toNat (g : Generator) (t : Word) (k : Nat) :
    (g.afterPeriods t k).accumulator.toNat = (g.accumulator.toNat + k * g.current.record.fraction.toNat) % 16 := by
  induction k with
  | zero => simpa using (Nat.mod_eq_of_lt g.accumulator.isLt).symm
  | succ k ih => rw [g.afterPeriods_succ, newPeriod_accumulator_toNat, afterPeriods_current, ih, Nat.mod_add_mod, Nat.succ_mul, Nat.add_assoc]

theorem Generator.periodLength_afterPeriods_succ (g : Generator) (t : Word) (k : Nat) :
    (g.afterPeriods t (k + 1)).periodLength = g.current.record.period.toNat + (if (g.afterPeriods t k).carries then 1 else 0) := by
  rw [g.afterPeriods_succ, newPeriod_periodLength, afterPeriods_current]

/-! ### The carries of a run -/

/-- How many of the next `n` additions of F carry: the multiples of 16 that the sum of the additions passes. -/
def Generator.carriesIn (g : Generator) (n : Nat) : Nat := (g.accumulator.toNat + n * g.current.record.fraction.toNat) / 16

@[simp] theorem Generator.carriesIn_zero (g : Generator) : g.carriesIn 0 = 0 := by
  simpa [carriesIn] using g.accumulator.isLt

/-- Sixteen additions of F raise the sum by 16 × F, so F of them carry, from any accumulator (R92). -/
@[simp] theorem Generator.carriesIn_sixteen (g : Generator) : g.carriesIn 16 = g.current.record.fraction.toNat := by
  have accumulator_lt : g.accumulator.toNat < 16 := g.accumulator.isLt
  rw [carriesIn]
  omega

/-- `carriesIn` counts the periods whose addition carries. -/
theorem Generator.carriesIn_succ (g : Generator) (t : Word) (n : Nat) :
    g.carriesIn (n + 1) = g.carriesIn n + (if (g.afterPeriods t n).carries then 1 else 0) := by
  have fraction_lt : g.current.record.fraction.toNat < 16 := g.current.record.fraction.isLt
  rw [carriesIn, carriesIn, Nat.succ_mul]
  simp only [carries_iff, afterPeriods_accumulator_toNat, afterPeriods_current]
  split <;> omega

/-! ### The lengths of a run -/

/-- The lengths of the next `n` periods. -/
def Generator.periodLengths (g : Generator) (t : Word) (n : Nat) : List Nat :=
  (List.range n).map fun k => (g.afterPeriods t (k + 1)).periodLength

@[simp] theorem Generator.periodLengths_zero (g : Generator) (t : Word) : g.periodLengths t 0 = [] := rfl

theorem Generator.periodLengths_succ (g : Generator) (t : Word) (n : Nat) :
    g.periodLengths t (n + 1) =
      g.periodLengths t n ++ [g.current.record.period.toNat + (if (g.afterPeriods t n).carries then 1 else 0)] := by
  rw [periodLengths, List.range_succ, List.map_append, List.map_singleton, periodLength_afterPeriods_succ, periodLengths]

theorem Generator.count_long_periodLengths (g : Generator) (t : Word) (n : Nat) :
    (g.periodLengths t n).count (g.current.record.period.toNat + 1) = g.carriesIn n := by
  induction n with
  | zero => simp
  | succ n ih =>
    rw [g.periodLengths_succ, List.count_append, ih, g.carriesIn_succ t]
    cases (g.afterPeriods t n).carries <;> simp

/-- The periods that are not long are of P ticks. -/
theorem Generator.count_short_periodLengths (g : Generator) (t : Word) (n : Nat) :
    (g.periodLengths t n).count g.current.record.period.toNat + g.carriesIn n = n := by
  induction n with
  | zero => simp
  | succ n ih =>
    rw [g.periodLengths_succ, List.count_append, g.carriesIn_succ t]
    cases (g.afterPeriods t n).carries <;> simp <;> omega

theorem Generator.sum_periodLengths (g : Generator) (t : Word) (n : Nat) :
    (g.periodLengths t n).sum = n * g.current.record.period.toNat + g.carriesIn n := by
  induction n with
  | zero => simp
  | succ n ih =>
    rw [g.periodLengths_succ, List.sum_append, List.sum_singleton, ih, g.carriesIn_succ t, Nat.succ_mul]
    omega

/-! ### The place of the long periods -/

/-- Adding `f` to `x` reaches or passes a new multiple of 16 when the remainder of `x` overflows. -/
theorem exists_multiple_passed_iff (x f : Nat) : (∃ n, x < 16 * n ∧ 16 * n ≤ x + f) ↔ 16 ≤ x % 16 + f := by
  constructor
  · rintro ⟨n, above, reached⟩
    omega
  · intro overflow
    exact ⟨x / 16 + 1, by omega, by omega⟩

theorem Generator.periodLength_long_iff (g : Generator) (t : Word) (k : Nat) :
    (g.afterPeriods t (k + 1)).periodLength = g.current.record.period.toNat + 1 ↔ (g.afterPeriods t k).carries = true := by
  rw [periodLength_afterPeriods_succ]
  cases (g.afterPeriods t k).carries <;> simp

theorem Generator.periodLength_of_not_long {g : Generator} {t : Word} {k : Nat}
    (short : (g.afterPeriods t (k + 1)).periodLength ≠ g.current.record.period.toNat + 1) :
    (g.afterPeriods t (k + 1)).periodLength = g.current.record.period.toNat := by
  rw [periodLength_afterPeriods_succ, if_neg (mt (g.periodLength_long_iff t k).mpr short), Nat.add_zero]

/-- From the accumulator 0 the period after `k` others is long when (k + 1) × F reaches a multiple of 16 that k × F had not (R92). -/
theorem Generator.carries_afterPeriods_iff {g : Generator} (fresh : g.accumulator = 0) (t : Word) (k : Nat) :
    (g.afterPeriods t k).carries = true ↔
      ∃ n, k * g.current.record.fraction.toNat < 16 * n ∧ 16 * n ≤ (k + 1) * g.current.record.fraction.toNat := by
  have sum : (g.afterPeriods t k).accumulator.toNat = k * g.current.record.fraction.toNat % 16 := by
    simp [g.afterPeriods_accumulator_toNat, fresh]
  rw [carries_iff, sum, afterPeriods_current, Nat.succ_mul, exists_multiple_passed_iff]

end Sys2Proof.Machine
end

section

open Sys2Proof Sys2Proof.Machine

/-- Settles O34: the counts and the sum of any run's lengths follow from its number of carries, which is F for 16 periods; from the
accumulator 0 a period carries where its multiple of F passes a multiple of 16. -/
theorem sixteenPeriodsCarryTheFraction : Obligations.SixteenPeriodsCarryTheFraction := by
  intro g t
  have long := g.count_long_periodLengths t 16
  have short := g.count_short_periodLengths t 16
  have total := g.sum_periodLengths t 16
  rw [g.carriesIn_sixteen] at long short total
  refine ⟨long, Nat.eq_sub_of_add_eq short, total, fun fresh k positive => ?_⟩
  obtain ⟨j, rfl⟩ := Nat.exists_eq_add_of_le' positive
  exact ⟨(g.periodLength_long_iff t j).trans (Generator.carries_afterPeriods_iff fresh t j), Generator.periodLength_of_not_long⟩

end

section
/-! PROOFS. The delivery of a capture record, to one queue and to the subscribers of the input (R115, R118), and what a read of the queue keeps (R123). -/

namespace Sys2Proof.Machine

/-! ### One queue -/

theorem CaptureState.deliver_of_room {k : CaptureState} (room : k.queue.length < 16) (r : CaptureRecord) :
    k.deliver r = { k with queue := k.queue ++ [{ r with gap := k.gapPending }], gapPending := false } :=
  if_pos room

theorem CaptureState.deliver_of_full {k : CaptureState} (full : 16 ≤ k.queue.length) (r : CaptureRecord) :
    k.deliver r = { k with lost := satInc k.lost, gapPending := true } :=
  if_neg (Nat.not_lt.mpr full)

/-! ### One master -/

/-- Delivery to `m` acts on the queue of `m` alone, and only where `m` is an ACTIVE subscriber of the input (R115). -/
theorem State.capture_deliverTo (s : State) (r : CaptureRecord) (m x : Master) :
    (s.deliverTo r m).capture x =
      if x = m ∧ s.isActive m = true ∧ (s.capture m).subscription.getLsbD r.input.val = true then (s.capture m).deliver r
      else s.capture x := by
  simp only [State.deliverTo, Bool.and_eq_true]
  by_cases takes : s.isActive m = true ∧ (s.capture m).subscription.getLsbD r.input.val = true
  · simp only [takes, and_self, and_true, if_true, State.capture_setCapture]
  · simp only [takes, and_false, if_false]

@[simp] theorem State.isActive_deliverTo (s : State) (r : CaptureRecord) (m x : Master) :
    (s.deliverTo r m).isActive x = s.isActive x := by
  unfold State.deliverTo
  split <;> rfl

/-- Overwriting the capture states hides a delivery: it changes nothing else. -/
theorem State.deliverTo_with_captures (s : State) (r : CaptureRecord) (m : Master) (ks : PerMaster CaptureState) :
    { s.deliverTo r m with captures := ks } = { s with captures := ks } := by
  unfold State.deliverTo
  split <;> rfl

/-! ### All masters -/

theorem State.deliver_frame (s : State) (r : CaptureRecord) : s.deliver r = { s with captures := (s.deliver r).captures } :=
  foldl_keeps (fun u : State => { u with captures := (s.deliver r).captures }) (fun (u : State) m => u.deliverTo r m)
    (fun u m => u.deliverTo_with_captures r m _) masters s

/-- The three deliveries do not meet: each reads and writes its own master's queue (R118). -/
theorem State.capture_deliver (s : State) (r : CaptureRecord) (m : Master) :
    (s.deliver r).capture m =
      if s.isActive m = true ∧ (s.capture m).subscription.getLsbD r.input.val = true then (s.capture m).deliver r
      else s.capture m := by
  have order : s.deliver r = ((s.deliverTo r .a).deliverTo r .b).deliverTo r .c := rfl
  rw [order]
  cases m <;> simp [State.capture_deliverTo]

/-! ### A read of the queue -/

/-- READ_CAPTURES clears the loss count of the reader; no master's gap pending moves (R118, R123). -/
theorem gapPending_readCaptures (s : State) (m x : Master) (p : List Byte) :
    ((readCaptures m p s).1.capture x).gapPending = (s.capture x).gapPending := by
  unfold readCaptures
  split
  · rfl
  · by_cases reader : x = m
    · subst reader
      simp
    · simp [State.capture_setCapture_ne _ _ reader]

end Sys2Proof.Machine
end

section

open Sys2Proof Sys2Proof.Machine

/-- Settles O46: one queue stores or counts by its length, the three deliveries touch nothing but their own master's queue, and a read
keeps gap pending. -/
theorem deliveryStoresOrCountsTheLoss : Obligations.DeliveryStoresOrCountsTheLoss :=
  ⟨fun _ r => ⟨fun room => CaptureState.deliver_of_room room r, fun full => CaptureState.deliver_of_full full r⟩,
    fun s r => ⟨s.deliver_frame r, s.capture_deliver r⟩, gapPending_readCaptures⟩

end

section
/-! PROOFS. The response of a command as its fields, each flag as the standing it reports (R171), and NOP (R182). -/

namespace Sys2Proof.Machine

/-! ### The flags of a response -/

/-- A queue's flag is set where the queue holds a record. -/
theorem not_isEmpty_eq_decide {α : Type} [DecidableEq α] (q : List α) : (!q.isEmpty) = decide (q ≠ []) := by
  cases q <;> rfl

/-- The response built reports each flag as the state has it; RESENT is clear (R171). -/
theorem State.buildResponse_eq (s : State) (m : Master) (tag code : Byte) (r : Reply) :
    s.buildResponse m tag code r =
      { status := r.status, tag := tag, code := code, notices := decide ((s.noticeQueue m).queue ≠ [])
        captures := decide ((s.capture m).queue ≠ []), tripped := decide (s.trip.state = .tripped), resent := false
        payload := r.payload } := by
  rw [State.buildResponse, not_isEmpty_eq_decide, not_isEmpty_eq_decide]

/-! ### NOP -/

/-- The block of NOP leaves the state and answers OK with no payload, whatever it is given (R182). -/
theorem nop_eq (m : Master) (p : List Byte) (s : State) : nop m p s = (s, { status := .ok, payload := [] }) := rfl

/-- A NOP that is taken only gives its port a response; no common refusal applies to it (R139, R181, R182). -/
theorem exec_nop_of_takenIn {s t : State} {m : Master} (h : TakenIn s m t) (tag : Byte) :
    exec (.nop m tag []) s = .next (t.respond m tag 0x00 { status := .ok, payload := [] }) := by
  have served : t.commonRefusal m .nop ([] : List Byte).length = none := commonRefusal_of_any rfl rfl rfl m
  have answered := exec_of_served h served tag
  rwa [meaningOf, nop_eq] at answered

end Sys2Proof.Machine
end

section

open Sys2Proof Sys2Proof.Machine

/-- Settles O12: a NOP that is taken only puts its OK in the pending response, whose flags are those of the state it finds. -/
theorem nopAnswersOkAndChangesNothing : Obligations.NopAnswersOkAndChangesNothing := by
  intro s t m tag taken
  rw [exec_nop_of_takenIn taken, State.respond, State.buildResponse_eq]

end

section
/-! PROOFS. What a run over all lines, inputs or masters does to each of them: the trip, the purge, the samples, the resets. -/

namespace Sys2Proof.Machine

/-! ### Runs over a list of places -/

/-- A run of an operation that acts on one place at a time acts once on each place of the list. `view` reads a place off the state, `g` is what
the operation does to it, and `I` is a condition of the state that the operation keeps. -/
theorem view_foldl {σ ι β : Type} [DecidableEq ι] {view : σ → ι → β} {f : σ → ι → σ} {g : ι → β → β} (I : σ → Prop)
    (keep : ∀ s i, I s → I (f s i)) (one : ∀ s i j, I s → view (f s i) j = if j = i then g i (view s i) else view s j)
    {l : List ι} (nodup : l.Nodup) {s : σ} (hs : I s) (j : ι) :
    view (l.foldl f s) j = if j ∈ l then g j (view s j) else view s j := by
  induction l generalizing s with
  | nil => rfl
  | cons i is ih =>
    obtain ⟨fresh, nodup⟩ := List.nodup_cons.mp nodup
    rw [List.foldl_cons, ih nodup (keep s i hs), one s i j hs]
    by_cases e : j = i
    · subst e; simp [fresh]
    · simp [e]

theorem nodup_allLines : allLines.Nodup := by decide
theorem nodup_allInputs : allInputs.Nodup := by decide
theorem nodup_masters : masters.Nodup := by decide

/-- A run over all lines, each operation acting on the record and the generator of its line alone. -/
theorem lineGen_foldl {f : State → Fin 16 → State} {g : Fin 16 → LineRecord × Generator → LineRecord × Generator}
    (one : ∀ s l l', ((f s l).line l', (f s l).gen l') = if l' = l then g l (s.line l, s.gen l) else (s.line l', s.gen l')) (s : State)
    (l : Fin 16) : ((allLines.foldl f s).line l, (allLines.foldl f s).gen l) = g l (s.line l, s.gen l) := by
  have h := view_foldl (view := fun (s : State) l => (s.line l, s.gen l)) (fun _ => True) (fun _ _ _ => trivial)
    (fun s l l' _ => one s l l') nodup_allLines trivial (s := s) l
  rwa [if_pos (mem_allLines l)] at h

/-! ### Notices to several masters -/

theorem State.noticeQueue_notify_all (s : State) (n : Notice) {ms : List Master} (nodup : ms.Nodup) (x : Master) :
    (ms.foldl (fun (s : State) m => s.notify m n) s).noticeQueue x =
      if x ∈ ms ∧ s.isActive x = true then (s.noticeQueue x).store n else s.noticeQueue x := by
  have h := view_foldl (view := State.noticeQueue) (f := fun (s : State) m => s.notify m n)
    (g := fun m q => if s.isActive m = true then q.store n else q)
    (fun u => ∀ m, u.isActive m = s.isActive m) (fun u m h x => by rw [u.isActive_notify, h])
    (fun u m x h => by
      rw [u.noticeQueue_notify, h]
      by_cases e : x = m
      · subst e; simp
      · simp [e]) nodup (s := s) (fun _ => rfl) x
  rw [h]
  by_cases e : x ∈ ms <;> simp [e]

theorem State.notices_foldl_frame (s : State) (n : Notice) (ms : List Master) :
    ms.foldl (fun s m => s.notify m n) s = { s with notices := (ms.foldl (fun (s : State) m => s.notify m n) s).notices } :=
  foldl_keeps (fun u : State => { u with notices := (ms.foldl (fun (s : State) m => s.notify m n) s).notices }) (fun (u : State) m => u.notify m n)
    (fun u m => by rw [u.notify_frame m n]) ms s

/-- A notice to every master changes the notice queues alone. -/
theorem State.notifyAll_frame (s : State) (n : Notice) : s.notifyAll n = { s with notices := (s.notifyAll n).notices } :=
  s.notices_foldl_frame n masters

theorem State.noticeQueue_notifyAll (s : State) (n : Notice) (x : Master) :
    (s.notifyAll n).noticeQueue x = if s.isActive x = true then (s.noticeQueue x).store n else s.noticeQueue x := by
  have h := s.noticeQueue_notify_all n nodup_masters x
  simpa only [State.notifyAll, mem_masters, true_and] using h

/-! ### The trip -/

/-- A line at rest at its safe level, with its generator IDLE. -/
theorem State.restAll_lineGen (s : State) (l : Fin 16) :
    (s.restAll.line l, s.restAll.gen l) = ({ s.line l with mode := .static, level := (s.line l).safe }, Generator.idle) := by
  have one (u : State) (l l' : Fin 16) : ((u.rest l (u.line l).safe).line l', (u.rest l (u.line l).safe).gen l') =
      if l' = l then ({ u.line l with mode := .static, level := (u.line l).safe }, Generator.idle) else (u.line l', u.gen l') := by
    rw [State.line_rest, State.gen_rest]
    split <;> rfl
  unfold State.restAll
  exact lineGen_foldl (f := fun s l => s.rest l (s.line l).safe)
    (g := fun _ x => ({ x.1 with mode := .static, level := x.1.safe }, Generator.idle)) one s l

theorem State.line_restAll (s : State) (l : Fin 16) : s.restAll.line l = { s.line l with mode := .static, level := (s.line l).safe } :=
  (Prod.mk.inj (s.restAll_lineGen l)).1

theorem State.gen_restAll (s : State) (l : Fin 16) : s.restAll.gen l = Generator.idle := (Prod.mk.inj (s.restAll_lineGen l)).2

theorem State.restAll_frame (s : State) : s.restAll = { s with lines := s.restAll.lines, gens := s.restAll.gens } :=
  foldl_keeps (fun u : State => { u with lines := s.restAll.lines, gens := s.restAll.gens }) (fun (u : State) l => u.rest l (u.line l).safe)
    (fun _ _ => rfl) allLines s

/-! ### The return of lines -/

/-- The record of a line that is returned: at rest at its safe level, handed to its oldest waiter if it has one (R74, R75). -/
def LineRecord.returned (r : LineRecord) : LineRecord :=
  { owner := r.waits.head?, mode := .static, level := r.safe, safe := r.safe, waits := r.waits.tail }

/-- The line is returned, its new owner not told yet. -/
def State.returned (s : State) (l : Fin 16) : State := (s.setGen l Generator.idle).setLine l (s.line l).returned

/-- A notice for a master, if there is one. -/
def State.notifyTo (s : State) (n : Notice) : Option Master → State
  | none => s
  | some m => s.notify m n

/-- A return hands the line on and tells the master that gets it. -/
theorem State.returnLine_eq (s : State) (l : Fin 16) (c : ReturnCause) :
    s.returnLine l c = (s.returned l).notifyTo (grantedNotice s l c) (s.line l).waits.head? := by
  unfold State.returnLine State.returned LineRecord.returned
  cases h : (s.line l).waits with
  | nil => simp [h, State.notifyTo, State.rest]
  | cons m ms => simp [State.notifyTo, State.rest]

@[simp] theorem State.line_notifyTo (s : State) (n : Notice) (x : Option Master) (l : Fin 16) : (s.notifyTo n x).line l = s.line l := by
  cases x <;> simp [State.notifyTo]

@[simp] theorem State.gen_notifyTo (s : State) (n : Notice) (x : Option Master) (l : Fin 16) : (s.notifyTo n x).gen l = s.gen l := by
  cases x <;> simp [State.notifyTo]

theorem State.notifyTo_frame (s : State) (n : Notice) (x : Option Master) : s.notifyTo n x = { s with notices := (s.notifyTo n x).notices } := by
  cases x with
  | none => rfl
  | some m => exact s.notify_frame m n

theorem State.line_returned (s : State) (l l' : Fin 16) : (s.returned l).line l' = if l' = l then (s.line l).returned else s.line l' :=
  (s.setGen l Generator.idle).line_setLine l l' _

theorem State.gen_returned (s : State) (l l' : Fin 16) : (s.returned l).gen l' = if l' = l then Generator.idle else s.gen l' :=
  s.gen_setGen l l' _

theorem State.line_returnIfOwned (s : State) (m : Master) (c : ReturnCause) (l l' : Fin 16) :
    (s.returnIfOwned m c l).line l' = if l' = l ∧ (s.line l).owner = some m then (s.line l).returned else s.line l' := by
  unfold State.returnIfOwned
  split
  · next h => rw [State.returnLine_eq, State.line_notifyTo, State.line_returned]; simp [h]
  · next h => simp [h]

theorem State.gen_returnIfOwned (s : State) (m : Master) (c : ReturnCause) (l l' : Fin 16) :
    (s.returnIfOwned m c l).gen l' = if l' = l ∧ (s.line l).owner = some m then Generator.idle else s.gen l' := by
  unfold State.returnIfOwned
  split
  · next h => rw [State.returnLine_eq, State.gen_notifyTo, State.gen_returned]; simp [h]
  · next h => simp [h]

/-- A return changes the lines, the generators and the notice queues alone. -/
theorem State.returnIfOwned_frame (s : State) (m : Master) (c : ReturnCause) (l : Fin 16) :
    s.returnIfOwned m c l =
      { s with lines := (s.returnIfOwned m c l).lines, gens := (s.returnIfOwned m c l).gens, notices := (s.returnIfOwned m c l).notices } := by
  unfold State.returnIfOwned
  split
  · rw [State.returnLine_eq, State.notifyTo_frame]; rfl
  · rfl

theorem State.returnLines_lineGen (s : State) (m : Master) (c : ReturnCause) (l : Fin 16) :
    ((s.returnLines m c).line l, (s.returnLines m c).gen l) =
      if (s.line l).owner = some m then ((s.line l).returned, Generator.idle) else (s.line l, s.gen l) :=
  lineGen_foldl (g := fun _ x => if x.1.owner = some m then (x.1.returned, Generator.idle) else x)
    (fun s l l' => by
      rw [State.line_returnIfOwned, State.gen_returnIfOwned]
      by_cases e : l' = l
      · subst e; by_cases h : (s.line l').owner = some m <;> simp [h]
      · simp [e]) s l

/-- Every line of master `m` is returned, no other (R76). -/
theorem State.line_returnLines (s : State) (m : Master) (c : ReturnCause) (l : Fin 16) :
    (s.returnLines m c).line l = if (s.line l).owner = some m then (s.line l).returned else s.line l := by
  have h := congrArg Prod.fst (s.returnLines_lineGen m c l)
  rwa [apply_ite Prod.fst] at h

theorem State.gen_returnLines (s : State) (m : Master) (c : ReturnCause) (l : Fin 16) :
    (s.returnLines m c).gen l = if (s.line l).owner = some m then Generator.idle else s.gen l := by
  have h := congrArg Prod.snd (s.returnLines_lineGen m c l)
  rwa [apply_ite Prod.snd] at h

theorem State.returnLines_frame (s : State) (m : Master) (c : ReturnCause) :
    s.returnLines m c =
      { s with lines := (s.returnLines m c).lines, gens := (s.returnLines m c).gens, notices := (s.returnLines m c).notices } := by
  unfold State.returnLines
  generalize allLines = ls
  exact foldl_keeps (fun u : State =>
      let t := ls.foldl (fun (s : State) l => s.returnIfOwned m c l) s
      { u with lines := t.lines, gens := t.gens, notices := t.notices })
    (fun (u : State) l => u.returnIfOwned m c l) (fun u l => by rw [u.returnIfOwned_frame m c l]) ls s

/-! ### The waits -/

theorem State.line_withdrawWait (s : State) (m : Master) (l l' : Fin 16) :
    (s.withdrawWait m l).line l' =
      if l' = l then { s.line l with waits := (s.line l).waits.filter fun w => !(w = m) } else s.line l' :=
  s.line_setLine l l' _

/-- Master `m` leaves every wait list; the order of the others stands (R73, R76). -/
theorem State.line_withdrawWaits (s : State) (m : Master) (l : Fin 16) :
    (s.withdrawWaits m).line l = { s.line l with waits := (s.line l).waits.filter fun w => !(w = m) } := by
  have h := lineGen_foldl (f := fun s l => s.withdrawWait m l)
    (g := fun _ x => ({ x.1 with waits := x.1.waits.filter fun w => !(w = m) }, x.2))
    (fun s l l' => by
      rw [State.line_withdrawWait]
      by_cases e : l' = l
      · subst e; simp [State.withdrawWait]
      · simp [e, State.withdrawWait]) s l
  exact congrArg Prod.fst h

theorem State.withdrawWaits_frame (s : State) (m : Master) : s.withdrawWaits m = { s with lines := (s.withdrawWaits m).lines } := by
  unfold State.withdrawWaits
  generalize allLines = ls
  exact foldl_keeps (fun u : State => { u with lines := (ls.foldl (fun (s : State) l => s.withdrawWait m l) s).lines })
    (fun (u : State) l => u.withdrawWait m l) (fun _ _ => rfl) ls s

end Sys2Proof.Machine
end

section
/-! PROOFS. The purge of a master, read off line by line and queue by queue (R74 to R76, R126, R138). -/

namespace Sys2Proof.Machine

/-! ### The notices of the returns -/

theorem State.noticeQueue_returnIfOwned (s : State) (m : Master) (c : ReturnCause) (l : Fin 16) (x : Master) :
    (s.returnIfOwned m c l).noticeQueue x =
      if s.isActive x = true ∧ (s.line l).owner = some m ∧ (s.line l).waits.head? = some x
      then (s.noticeQueue x).store (grantedNotice s l c) else s.noticeQueue x := by
  unfold State.returnIfOwned
  by_cases owned : (s.line l).owner = some m
  · rw [if_pos owned, State.returnLine_eq]
    cases h : (s.line l).waits.head? with
    | none => simp [State.notifyTo, State.returned]
    | some y =>
      have active : (s.returned l).isActive y = s.isActive y := rfl
      have queue (z : Master) : (s.returned l).noticeQueue z = s.noticeQueue z := rfl
      rw [State.notifyTo, State.noticeQueue_notify, active, queue, queue]
      by_cases e : x = y
      · subst e; simp [owned]
      · simp [e, Ne.symm e]
  · simp [owned]

/-- The notices of a run of returns: one GRANTED for each line handed to the master, in line order. -/
theorem State.noticeQueue_returns (s : State) (m : Master) (c : ReturnCause) {ls : List (Fin 16)} (nodup : ls.Nodup) (x : Master) :
    (ls.foldl (fun s l => s.returnIfOwned m c l) s).noticeQueue x =
      if s.isActive x = true then
        (ls.filter fun l => decide ((s.line l).owner = some m ∧ (s.line l).waits.head? = some x)).foldl
          (fun q l => q.store (grantedNotice s l c)) (s.noticeQueue x)
      else s.noticeQueue x := by
  induction ls generalizing s with
  | nil => simp
  | cons l ls ih =>
    obtain ⟨fresh, nodup⟩ := List.nodup_cons.mp nodup
    have frame := s.returnIfOwned_frame m c l
    have active : (s.returnIfOwned m c l).isActive x = s.isActive x := by rw [frame]; rfl
    have granted (l' : Fin 16) : grantedNotice (s.returnIfOwned m c l) l' c = grantedNotice s l' c := by rw [frame]; rfl
    have others : ∀ l' ∈ ls, (s.returnIfOwned m c l).line l' = s.line l' := by
      intro l' mem
      have ne : l' ≠ l := fun e => fresh (e ▸ mem)
      simp [State.line_returnIfOwned, ne]
    have same : (ls.filter fun l' => decide (((s.returnIfOwned m c l).line l').owner = some m ∧
          ((s.returnIfOwned m c l).line l').waits.head? = some x)) =
        ls.filter fun l' => decide ((s.line l').owner = some m ∧ (s.line l').waits.head? = some x) :=
      List.filter_congr fun l' mem => by rw [others l' mem]
    rw [List.foldl_cons, ih _ nodup, active, State.noticeQueue_returnIfOwned, same, List.filter_cons]
    simp only [granted]
    by_cases a : s.isActive x = true
    · by_cases h : (s.line l).owner = some m ∧ (s.line l).waits.head? = some x
      · simp [a, h]
      · simp [a, h]
    · simp [a]

/-! ### The purge -/

/-- The record of a line after the purge of its owner or one of its waiters: the wait withdrawn, then the line returned if it was owned. -/
def LineRecord.purged (r : LineRecord) (m : Master) : LineRecord :=
  let r₁ : LineRecord := { r with waits := r.waits.filter fun w => !(w = m) }
  if r.owner = some m then r₁.returned else r₁

/-- The state in which the lines of a purged master are returned: its entries and its waits gone. -/
def State.stripped (s : State) (m : Master) : State := (s.purgeEntries m).withdrawWaits m

theorem State.line_stripped (s : State) (m : Master) (l : Fin 16) :
    (s.stripped m).line l = { s.line l with waits := (s.line l).waits.filter fun w => !(w = m) } :=
  (s.purgeEntries m).line_withdrawWaits m l

theorem State.stripped_frame (s : State) (m : Master) :
    s.stripped m = { s.purgeEntries m with lines := (s.stripped m).lines } := (s.purgeEntries m).withdrawWaits_frame m

theorem State.gen_stripped (s : State) (m : Master) (l : Fin 16) : (s.stripped m).gen l = s.gen l := by
  rw [s.stripped_frame m]; rfl

theorem State.purge_eq (s : State) (m : Master) (c : ReturnCause) :
    s.purge m c = ((s.stripped m).returnLines m c).setCapture m CaptureState.initial := rfl

theorem State.line_purge (s : State) (m : Master) (c : ReturnCause) (l : Fin 16) : (s.purge m c).line l = (s.line l).purged m := by
  rw [State.purge_eq, State.line_setCapture, State.line_returnLines, State.line_stripped]; rfl

theorem State.gen_purge (s : State) (m : Master) (c : ReturnCause) (l : Fin 16) :
    (s.purge m c).gen l = if (s.line l).owner = some m then Generator.idle else s.gen l := by
  rw [State.purge_eq, State.gen_setCapture, State.gen_returnLines, State.line_stripped, State.gen_stripped]

/-- A purge changes the pool, the lines, the generators, the capture state and the notice queues alone. -/
theorem State.purge_frame (s : State) (m : Master) (c : ReturnCause) :
    s.purge m c =
      { s.purgeEntries m with lines := (s.purge m c).lines, gens := (s.purge m c).gens, captures := s.captures.set m CaptureState.initial
                              notices := (s.purge m c).notices } := by
  have returned := (s.stripped m).returnLines_frame m c
  have stripped := s.stripped_frame m
  rw [State.purge_eq]
  generalize (s.stripped m).returnLines m c = u at returned ⊢
  generalize s.stripped m = v at returned stripped
  rw [returned, stripped]
  rfl

theorem State.capture_purge (s : State) (m : Master) (c : ReturnCause) (x : Master) :
    (s.purge m c).capture x = if x = m then CaptureState.initial else s.capture x := by
  have captures : (s.purge m c).captures = s.captures.set m CaptureState.initial := by rw [s.purge_frame m c]
  rw [State.capture, captures]
  exact PerMaster.get_set ..

/-- After its purge a master owns no line and waits for none (R138). -/
theorem State.not_owner_purge (s : State) (m : Master) (c : ReturnCause) (l : Fin 16) :
    ((s.purge m c).line l).owner ≠ some m ∧ m ∉ ((s.purge m c).line l).waits := by
  have gone : m ∉ (s.line l).waits.filter fun w => !(w = m) := by simp
  rw [State.line_purge]
  unfold LineRecord.purged
  simp only
  split
  · exact ⟨fun h => gone (List.mem_of_mem_head? h), fun h => gone (List.mem_of_mem_tail h)⟩
  · next h => exact ⟨h, gone⟩

theorem State.noticeQueue_purge (s : State) (m : Master) (c : ReturnCause) (x : Master) :
    (s.purge m c).noticeQueue x =
      if s.isActive x = true then
        (allLines.filter fun l => decide ((s.line l).owner = some m ∧ ((s.line l).waits.filter fun w => !(w = m)).head? = some x)).foldl
          (fun q l => q.store (grantedNotice s l c)) (s.noticeQueue x)
      else s.noticeQueue x := by
  have frame := s.stripped_frame m
  have active : (s.stripped m).isActive x = s.isActive x := by rw [frame]; rfl
  have queue : (s.stripped m).noticeQueue x = s.noticeQueue x := by rw [frame]; rfl
  have granted (l : Fin 16) : grantedNotice (s.stripped m) l c = grantedNotice s l c := by rw [frame]; rfl
  rw [State.purge_eq, State.noticeQueue_setCapture, State.returnLines, State.noticeQueue_returns _ m c nodup_allLines, active, queue]
  simp only [granted, State.line_stripped]

end Sys2Proof.Machine
end

section

open Sys2Proof Sys2Proof.Machine

/-- Settles O26: the purge read off line by line, and its GRANTED notices in line order. -/
theorem purgeTakesBackEverything : Obligations.PurgeTakesBackEverything := by
  intro t m cause u
  have code : returnCauseCode cause = match cause with | .released => 1 | .lapsed => 2 | .closed => 3 := by cases cause <;> rfl
  refine ⟨?_, fun l => ?_, fun l => t.gen_purge m cause l, ?_, fun x ne => ?_, fun x => ?_⟩
  · have frame := t.purge_frame m cause
    have captures : (t.purge m cause).captures = t.captures.set m CaptureState.initial := by rw [frame]
    simp only [u, decide_not]
    rw [captures]
    exact frame
  · simp only [u, t.line_purge m cause l, LineRecord.purged, LineRecord.returned, decide_not]
  · simp only [u, t.capture_purge m cause m, if_pos]; rfl
  · simp only [u, t.capture_purge m cause x, if_neg ne]
  · simp only [u, t.noticeQueue_purge m cause x, decide_not, grantedNotice, code] <;> rfl

end

section
/-! PROOFS. The induction over the rows, once: a condition that the operations of the events, of the executions and of the commands keep is kept by every
step. A value names the operations that touch its condition; the others hold by the default of their field, which checks that the operation leaves
the condition as it was. -/

namespace Sys2Proof.Machine

/-! ### The operations of the events -/

/-- Master `m` may take up the session `x` that is not ACTIVE: it has no line, no wait and no capture state, and only the notices that `x` allows
(R134 to R138). -/
structure MayLeave (s : State) (m : Master) (x : Session) : Prop where
  inactive : x.isActive = false
  lineless : ∀ l, (s.line l).owner ≠ some m ∧ m ∉ (s.line l).waits
  captureless : s.capture m = CaptureState.initial
  closed : x = .closed → s.noticeQueue m = NoticeQueue.initial
  lapsed : x = .lapsed → (s.noticeQueue m).lost = 0 ∧ ∃ n, (s.noticeQueue m).queue = [n] ∧ n.kind = .lapsed

/-- The condition `P` is kept by every operation of which the events of a tick are made, each under what holds where it is used, but for the
executions of entries. -/
structure KeptByEvents (P : State → Prop) : Prop where
  notice : ∀ s m n, s.isActive m = true → P s → P (s.setNotices m ((s.noticeQueue m).store n)) := by intros; assumption
  drop : ∀ s (f : TimedEntry → Bool) (g : ArmedEntry → Bool), P s → P { s with timed := s.timed.filter f, armed := s.armed.filter g } := by
    intros; assumption
  rest : ∀ s l v, (s.gen l).state ≠ .idle → P s → P (s.rest l v) := by intros; assumption
  begins : ∀ s l j n, (s.gen l).state = .running → j = (s.gen l).current ∨ (s.gen l).staged = some j → P s →
    P (s.beginPeriod l { s.gen l with current := j, staged := none, remaining := n }) := by intros; assumption
  falls : ∀ s l, (s.gen l).state ≠ .idle → P s → P (s.setLine l { s.line l with level := .low }) := by intros; assumption
  withdraw : ∀ s m l, P s → P (s.withdrawWait m l) := by intros; assumption
  returned : ∀ s l m, (s.line l).owner = some m → (∀ e ∈ s.timed, e.core.line = l → e.core.poster ≠ m) →
    (∀ e ∈ s.armed, e.core.line = l → e.core.poster ≠ m) → P s → P (s.returned l) := by intros; assumption
  forget : ∀ s m, P s → P (s.setCapture m CaptureState.initial) := by intros; assumption
  empty : ∀ s m, P s → P (s.setNotices m NoticeQueue.initial) := by intros; assumption
  leave : ∀ s m x, MayLeave s m x → P s → P (s.setSession m x) := by intros; assumption
  accept : ∀ s i since, (s.input i).filter = .candidate since true → P s →
    P (s.setInput i { s.input i with filtered := opposite (s.input i).filtered, filter := .stable }) := by intros; assumption
  number : ∀ s i n, P s → P (s.setInput i { s.input i with sequence := n }) := by intros; assumption
  record : ∀ s m r, s.isActive m = true → P s → P (s.setCapture m ((s.capture m).deliver r)) := by intros; assumption
  trips : ∀ s (lines : Vector LineRecord 16) (gens : Vector Generator 16),
    (∀ l : Fin 16, lines[l] = { s.line l with mode := .static, level := (s.line l).safe } ∧ gens[l] = Generator.idle) → P s →
    P { s.markTripped with lines := lines, gens := gens } := by intros; assumption
  tripSample : ∀ s n v, P s → P { s with trip := { s.trip with count := n, lastSample := v } } := by intros; assumption
  tripTaken : ∀ s, P s → P { s with tripSampleDue := false } := by intros; assumption

namespace KeptByEvents

variable {P : State → Prop} (k : KeptByEvents P)
include k

theorem notify (s : State) (m : Master) (n : Notice) (h : P s) : P (s.notify m n) := by
  unfold State.notify
  split
  · next active => exact k.notice s m n active h
  · exact h

theorem notifyTo (s : State) (n : Notice) (x : Option Master) (h : P s) : P (s.notifyTo n x) := by
  cases x with
  | none => exact h
  | some m => exact k.notify s m n h

theorem expire (s : State) (h : P s) : P s.expire := by
  unfold State.expire
  refine List.foldlRecOn (motive := P) _ _ ?_ fun s hs e _ => k.notify s _ _ hs
  have all : s.timed.filter (fun _ => true) = s.timed := List.filter_true s.timed
  have dropped := k.drop s (fun _ => true) (fun e => !(e.deadline = some s.count)) h
  rwa [all] at dropped

theorem endTrain (s : State) (l : Fin 16) (c : TrainEndCause) (busy : (s.gen l).state ≠ .idle) (h : P s) : P (s.endTrain l c) := by
  unfold State.endTrain
  simp only
  split
  · unfold State.notifyOwner
    split
    · exact k.rest s l _ busy h
    · exact k.notify _ _ _ (k.rest s l _ busy h)
  · exact k.rest s l _ busy h

theorem runningPeriodEnd (s : State) (l : Fin 16) (running : (s.gen l).state = .running) (h : P s) : P (s.runningPeriodEnd l) := by
  have busy : (s.gen l).state ≠ .idle := by rw [running]; decide
  unfold State.runningPeriodEnd
  split
  · next j staged => exact k.begins s l j j.record.pulses running (.inr staged) h
  · next staged =>
    have again (n : BitVec 16) := k.begins s l (s.gen l).current n running (.inl rfl) h
    rw [← staged] at again
    split
    · exact again (s.gen l).remaining
    · split
      · exact k.endTrain s l .count busy h
      · exact again ((s.gen l).remaining - 1)

theorem periodEnd (s : State) (l : Fin 16) (h : P s) : P (s.periodEnd l) := by
  unfold State.periodEnd
  split
  · split
    · next stopping => exact k.endTrain s l .stopped (by rw [stopping]; decide) h
    · next running => exact k.runningPeriodEnd s l running h
    · exact h
  · exact h

theorem highPartEnd (s : State) (l : Fin 16) (h : P s) : P (s.highPartEnd l) := by
  unfold State.highPartEnd
  split
  · next due =>
    have busy : (s.gen l).state ≠ .idle := by simp only [State.highPartEndDue, Bool.and_eq_true, decide_eq_true_eq] at due; tauto
    exact k.falls s l busy h
  · exact h

/-- The return of a line of a master that has no entry for it. -/
theorem returnLine (s : State) (l : Fin 16) (c : ReturnCause) {m : Master} (owned : (s.line l).owner = some m)
    (timed : ∀ e ∈ s.timed, e.core.line = l → e.core.poster ≠ m) (armed : ∀ e ∈ s.armed, e.core.line = l → e.core.poster ≠ m) (h : P s) :
    P (s.returnLine l c) := by
  rw [State.returnLine_eq]
  exact k.notifyTo _ _ _ (k.returned s l m owned timed armed h)

/-- The purge keeps the condition: while the lines are returned the master has no entry left. -/
theorem purge (s : State) (m : Master) (c : ReturnCause) (h : P s) : P (s.purge m c) := by
  have stripped : P (s.stripped m) :=
    List.foldlRecOn (motive := P) _ _ (k.drop s _ _ h) fun s hs l _ => k.withdraw s m l hs
  have entryless : (∀ e ∈ (s.stripped m).timed, e.core.poster ≠ m) ∧ ∀ e ∈ (s.stripped m).armed, e.core.poster ≠ m := by
    rw [s.stripped_frame m]; simp [State.purgeEntries]
  have returned : P ((s.stripped m).returnLines m c) :=
    (List.foldlRecOn (motive := fun u => P u ∧ (∀ e ∈ u.timed, e.core.poster ≠ m) ∧ ∀ e ∈ u.armed, e.core.poster ≠ m) _ _
      ⟨stripped, entryless⟩ fun u ⟨hu, timed, armed⟩ l _ => by
        refine ⟨?_, ?_⟩
        · unfold State.returnIfOwned
          split
          · next owned => exact k.returnLine u l c owned (fun e he _ => timed e he) (fun e he _ => armed e he) hu
          · exact hu
        · rw [u.returnIfOwned_frame m c l]; exact ⟨timed, armed⟩).1
  rw [State.purge_eq]
  exact k.forget _ m returned

theorem tellPeers (s : State) (m : Master) (h : P s) : P (s.tellPeers m) :=
  List.foldlRecOn (motive := P) _ _ h fun s hs x _ => k.notify s x _ hs

theorem notifyAll (s : State) (n : Notice) (h : P s) : P (s.notifyAll n) :=
  List.foldlRecOn (motive := P) _ _ h fun s hs m _ => k.notify s m n hs

theorem tripNow (s : State) (h : P s) : P s.tripNow := by
  unfold State.tripNow
  refine k.notifyAll _ _ ?_
  rw [State.restAll_frame]
  exact k.trips s _ _ (fun l => ⟨s.markTripped.line_restAll l, s.markTripped.gen_restAll l⟩) h

theorem sampleTrip (s : State) (h : P s) : P s.sampleTrip := by
  unfold State.sampleTrip
  split
  · exact k.tripNow s h
  · exact k.tripSample s s.trip.count .high h
  · exact k.tripSample s _ _ h

theorem takeTripSample (s : State) (h : P s) : P s.takeTripSample := by
  unfold State.takeTripSample
  split
  · exact k.sampleTrip _ (k.tripTaken s h)
  · exact h

theorem deliver (s : State) (r : CaptureRecord) (h : P s) : P (s.deliver r) := by
  refine List.foldlRecOn (motive := P) _ _ h fun s hs m _ => ?_
  unfold State.deliverTo
  split
  · next takes =>
    simp only [Bool.and_eq_true] at takes
    exact k.record s m r takes.1 hs
  · exact hs

end KeptByEvents

/-! ### The lapse -/

@[simp] theorem State.count_notify (s : State) (m : Master) (n : Notice) : (s.notify m n).count = s.count :=
  count_of_maskExec (s.maskExec_notify m n)

/-- The peers of a master are the other masters; the notice to the second of them is that of the first. -/
theorem State.tellPeers_eq (s : State) (m : Master) :
    s.tellPeers m = (masters.filter fun x => !(x = m)).foldl (fun (u : State) x => u.notify x (peerLapsedNotice s m)) s := by
  have peers : masters.filter (fun x => !(x = m)) = match m with | .a => [.b, .c] | .b => [.a, .c] | .c => [.a, .b] := by
    cases m <;> rfl
  unfold State.tellPeers
  rw [peers]
  cases m <;> simp [peerLapsedNotice]

theorem State.tellPeers_frame (s : State) (m : Master) : s.tellPeers m = { s with notices := (s.tellPeers m).notices } := by
  rw [State.tellPeers_eq]
  exact s.notices_foldl_frame _ _

theorem State.noticeQueue_tellPeers (s : State) (m x : Master) :
    (s.tellPeers m).noticeQueue x =
      if x ≠ m ∧ s.isActive x = true then (s.noticeQueue x).store (peerLapsedNotice s m) else s.noticeQueue x := by
  rw [State.tellPeers_eq, State.noticeQueue_notify_all _ _ (nodup_masters.filter _)]
  simp [mem_masters]

/-- The lapse of master `m` before its session is LAPSED: purged, its queue emptied, it and its peers told (R136). -/
def State.lapsing (s : State) (m : Master) : State :=
  (((s.purge m .lapsed).setNotices m NoticeQueue.initial).notify m (lapsedNotice s (s.linesOwned m))).tellPeers m

theorem State.lapseNow_eq (s : State) (m : Master) : s.lapseNow m = (s.lapsing m).setSession m .lapsed := rfl

theorem State.lapsing_frame (s : State) (m : Master) : s.lapsing m = { s.purge m .lapsed with notices := (s.lapsing m).notices } := by
  unfold State.lapsing
  generalize s.purge m .lapsed = p
  generalize lapsedNotice s (s.linesOwned m) = n
  have told := ((p.setNotices m NoticeQueue.initial).notify m n).tellPeers_frame m
  have lapsed := (p.setNotices m NoticeQueue.initial).notify_frame m n
  generalize (p.setNotices m NoticeQueue.initial).notify m n = v at told lapsed ⊢
  generalize v.tellPeers m = u at told ⊢
  rw [told, lapsed]
  rfl

/-- A lapse is the purge with other notices and the session LAPSED. -/
theorem State.lapseNow_frame (s : State) (m : Master) :
    s.lapseNow m = { s.purge m .lapsed with sessions := s.sessions.set m .lapsed, notices := (s.lapseNow m).notices } := by
  have lapsing := s.lapsing_frame m
  have sessions : (s.purge m .lapsed).sessions = s.sessions := by rw [s.purge_frame m .lapsed]; rfl
  rw [State.lapseNow_eq]
  generalize s.lapsing m = u at lapsing ⊢
  generalize s.purge m .lapsed = p at lapsing sessions ⊢
  rw [lapsing, ← sessions]
  rfl

/-- What the masters' queues hold after the lapse of `m`: of `m` the LAPSED notice alone, of its ACTIVE peers PEER_LAPSED after what the purge told
them (R136, R137). -/
theorem State.noticeQueue_lapseNow (s : State) {m : Master} (active : s.isActive m = true) (x : Master) :
    (s.lapseNow m).noticeQueue x =
      if x = m then { queue := [lapsedNotice s (s.linesOwned m)], lost := 0 }
      else if s.isActive x = true then ((s.purge m .lapsed).noticeQueue x).store (peerLapsedNotice s m)
      else (s.purge m .lapsed).noticeQueue x := by
  have same (y : Master) : (s.purge m .lapsed).isActive y = s.isActive y := by rw [s.purge_frame m .lapsed]; rfl
  have count : (s.purge m .lapsed).count = s.count := by rw [s.purge_frame m .lapsed]; rfl
  rw [State.lapseNow_eq, State.noticeQueue_setSession, State.lapsing]
  generalize s.purge m .lapsed = p at same count ⊢
  have peer : peerLapsedNotice ((p.setNotices m NoticeQueue.initial).notify m (lapsedNotice s (s.linesOwned m))) m = peerLapsedNotice s m := by
    unfold peerLapsedNotice
    rw [State.count_notify, State.count_setNotices, count]
  rw [State.noticeQueue_tellPeers, peer]
  by_cases e : x = m
  · subst e; simp [State.noticeQueue_notify, same, active]; rfl
  · simp [e, State.noticeQueue_notify, State.noticeQueue_setNotices, same]

/-! ### The events -/

namespace KeptByEvents

variable {P : State → Prop} (k : KeptByEvents P)
include k

theorem lapse (s : State) (m : Master) (h : P s) : P (s.lapse m) := by
  unfold State.lapse
  split
  · next due =>
    have active : s.isActive m = true := by
      unfold State.lapseDue at due
      cases x : s.session m <;> simp_all [State.isActive, Session.isActive]
    have queue := s.noticeQueue_lapseNow active m
    rw [if_pos rfl] at queue
    rw [State.lapseNow_eq, State.noticeQueue_setSession] at queue
    have told : P (s.lapsing m) := k.tellPeers _ m (k.notify _ m _ (k.empty _ m (k.purge s m .lapsed h)))
    have frame := s.lapsing_frame m
    have lineless := s.not_owner_purge m .lapsed
    have captureless := s.capture_purge m .lapsed m
    rw [State.lapseNow_eq]
    generalize s.purge m .lapsed = p at frame lineless captureless
    generalize s.lapsing m = u at frame queue told ⊢
    refine k.leave u m .lapsed ⟨rfl, ?_, ?_, by simp, fun _ => ?_⟩ told
    · rw [frame]; exact lineless
    · rw [frame]; exact captureless.trans (if_pos rfl)
    · rw [queue]; exact ⟨rfl, _, rfl, rfl⟩
  · exact h

theorem takeEdge (offer : ∀ s i d e, P s → P (s.offer i d e)) (s : State) (i : Fin 8) (h : P s) : P (s.takeEdge i) := by
  unfold State.takeEdge
  split
  · next since outstanding =>
    have accepted := k.accept s i since outstanding h
    unfold State.acceptEdge
    simp only
    split
    · exact offer _ _ _ _ (k.deliver _ _ (k.number _ i _ accepted))
    · exact accepted
  · exact h
  · exact h

/-- A condition that the operations of the events keep, and the two events that execute entries, is kept by every event of a tick. -/
theorem takeEvent (dispatch : ∀ s, P s → P s.dispatch) (offer : ∀ s i d e, P s → P (s.offer i d e)) (s : State) (e : TickEvent) (h : P s) :
    P (s.takeEvent e) := by
  cases e with
  | dispatch => exact dispatch s h
  | deadlines => exact k.expire s h
  | lapse m => exact k.lapse s m h
  | periodEnd l => exact k.periodEnd s l h
  | highPartEnd l => exact k.highPartEnd s l h
  | edge i => exact k.takeEdge offer s i h
  | trip => exact k.takeTripSample s h

end KeptByEvents

end Sys2Proof.Machine
end

section
/-! PROOFS. The executions of entries in the induction over the rows: what an execution and a conversion are made of (R26, R31 to R35, R50 to R54). -/

namespace Sys2Proof.Machine

/-! ### Times from the count -/

@[simp] theorem distance_add (c d : Word) : distance c (c + d) = d.toNat := by simp [distance]

theorem toNat_interval (x : BitVec 24) : (x.setWidth 32).toNat = x.toNat := by
  have := x.isLt
  simp only [BitVec.toNat_setWidth]; omega

/-- A time one interval after the count is at the distance of the interval, below 2^24. -/
theorem distance_interval (c : Word) (x : BitVec 24) : distance c (c + x.setWidth 32) = x.toNat := by
  rw [distance_add, toNat_interval]

theorem distance_self (c : Word) : distance c c = 0 := by simp [distance]

theorem eq_of_distance_eq_zero {c t : Word} (h : distance c t = 0) : t = c := by
  have : t - c = 0 := BitVec.eq_of_toNat_eq h
  exact sub_eq_zero.mp this

theorem distance_eq_zero_iff {c t : Word} : distance c t = 0 ↔ t = c :=
  ⟨eq_of_distance_eq_zero, fun h => h ▸ distance_self c⟩

theorem classify_ahead_iff {c t : Word} : classify c t = .ahead ↔ 1 ≤ distance c t ∧ distance c t < 2147483648 := by
  constructor
  · intro h
    unfold classify at h
    split at h
    · cases h
    · split at h
      · next h₁ h₂ => exact ⟨Nat.pos_of_ne_zero h₁, h₂⟩
      · cases h
  · exact fun ⟨h₁, h₂⟩ => classify_eq_ahead h₁ (by omega)

/-! ### The parts of an execution -/

/-- A repeat part is used up at its last execution; else one execution is gone, or as many are left when endless (R27, R35). -/
theorem RepeatPart.afterExecution_eq (r : RepeatPart) :
    r.afterExecution = if r.remaining = 1 then none else some ⟨r.interval, if r.remaining = 0 then 0 else r.remaining - 1⟩ := by
  unfold RepeatPart.afterExecution
  by_cases endless : r.remaining = 0
  · have more : r.remaining ≠ 1 := by rw [endless]; decide
    rw [if_pos endless, if_neg more, if_pos endless, ← endless]
  · rw [if_neg endless, if_neg endless]

theorem RepeatPart.of_afterExecution {r r' : RepeatPart} (h : r.afterExecution = some r') : r.remaining ≠ 1 ∧ r'.interval = r.interval := by
  rw [afterExecution_eq] at h
  split at h
  · cases h
  · next more => cases h; exact ⟨more, rfl⟩

theorem RepeatPart.interval_afterExecution {r r' : RepeatPart} (h : r.afterExecution = some r') : r'.interval = r.interval :=
  (of_afterExecution h).2

/-- The repeat step leaves the calendar, or inserts the entry once more, one interval later (R27, R35). -/
theorem State.repeatFrom_cases (s : State) (e : EntryCore) (base : Word) :
    s.repeatFrom e base = s ∨ ∃ r r', e.repeatPart = some r ∧ r.afterExecution = some r' ∧
      s.repeatFrom e base = s.insertTimed { core := { e with repeatPart := some r' }, due := base + r.interval.setWidth 32 } := by
  unfold State.repeatFrom
  cases hr : e.repeatPart with
  | none => exact .inl rfl
  | some r =>
    cases hr' : r.afterExecution with
    | none => exact .inl (by simp [hr'])
    | some r' => exact .inr ⟨r, r', rfl, hr', by simp [hr']⟩

theorem State.normal_of_executed {s : State} {e : EntryCore} (h : s.decideExecution e = .executed) : s.trip.state = .normal := by
  unfold State.decideExecution at h
  cases t : s.trip.state
  · rfl
  · simp only [t, if_true] at h
    split at h <;> cases h

@[simp] theorem State.line_reportLate (s : State) (e : EntryCore) (late : Option Word) (l : Fin 16) :
    (s.reportLate e late).line l = s.line l := by
  cases late <;> simp [State.reportLate]

@[simp] theorem State.owner_runAction (s : State) (e : EntryCore) (l : Fin 16) : ((s.runAction e).line l).owner = (s.line l).owner := by
  unfold State.runAction; split <;> simp

@[simp] theorem State.line_reportExecution (s : State) (e : EntryCore) (x : Execution) (l : Fin 16) :
    (s.reportExecution e x).line l = s.line l := by
  unfold State.reportExecution; split <;> simp

@[simp] theorem State.line_repeatFrom (s : State) (e : EntryCore) (base : Word) (l : Fin 16) : (s.repeatFrom e base).line l = s.line l := by
  rw [s.repeatFrom_frame e base]; rfl

@[simp] theorem State.owner_executeEntry (s : State) (e : EntryCore) (late : Option Word) (l : Fin 16) :
    ((s.executeEntry e late).line l).owner = (s.line l).owner := by
  unfold State.executeEntry; split <;> simp

@[simp] theorem State.owner_convert (s : State) (a : ArmedEntry) (e : Word) (l : Fin 16) :
    ((s.convert a e).line l).owner = (s.line l).owner := by
  unfold State.convert
  simp only
  split
  · rfl
  · simp
  · split <;> simp

/-! ### Executions that keep a condition -/

/-- The condition `P` is kept by the actions and the insertions of executions. `Q s e` is what `P` says of an entry `e` of the pool in the state `s`;
the ownership of the lines does not move while entries execute. -/
structure KeptByExecutions (P : State → Prop) (Q : State → EntryCore → Prop) : Prop where
  entries : ∀ s, P s → (∀ e ∈ s.timed, Q s e.core) ∧ ∀ e ∈ s.armed, Q s e.core
  steady : ∀ {s t : State} {e}, (∀ l, (t.line l).owner = (s.line l).owner) → Q s e → Q t e
  again : ∀ {s : State} {e r r'}, e.repeatPart = some r → r.afterExecution = some r' → Q s e → Q s { e with repeatPart := some r' }
  insert : ∀ s e, Q s e.core → (e.core.inRange → e.due ≠ s.count) → distance s.count e.due < 2147483648 → P s → P (s.insertTimed e)
  action : ∀ s e, Q s e → (s.line e.line).owner = some e.poster → s.trip.state = .normal → P s →
    P (s.applyAction e.line e.action e.ticket)

namespace KeptByExecutions

variable {P : State → Prop} {Q : State → EntryCore → Prop} (k : KeptByEvents P) (x : KeptByExecutions P Q)
include x

theorem repeatFrom (s : State) {e : EntryCore} {base : Word} (now : base = s.count) (q : Q s e) (h : P s) : P (s.repeatFrom e base) := by
  rcases s.repeatFrom_cases e base with same | ⟨r, r', part, after, inserted⟩
  · rw [same]; exact h
  · rw [inserted, now]
    have distance := distance_interval s.count r.interval
    refine x.insert s _ (x.again part after q) (fun range due => ?_) ?_ h
    · have zero : r.interval.toNat = 0 := distance.symm.trans (distance_eq_zero_iff.mpr due)
      have interval : r.interval = 0 := BitVec.eq_of_toNat_eq zero
      have ranges := range.2.2 r' rfl
      rw [RepeatPart.interval_afterExecution after] at ranges
      exact ranges interval
    · have := r.interval.isLt
      rw [distance]; omega

theorem runAction (s : State) {e : EntryCore} (owned : (s.line e.line).owner = some e.poster) (q : Q s e) (h : P s) : P (s.runAction e) := by
  unfold State.runAction
  split
  · next executed => exact x.action s e q owned (State.normal_of_executed executed) h
  · exact h
  · exact h

include k

theorem executeEntry (s : State) {e : EntryCore} (late : Option Word) (q : Q s e) (h : P s) : P (s.executeEntry e late) := by
  unfold State.executeEntry
  split
  · next owned =>
    have reported : P (s.reportLate e late) := by
      cases late with
      | none => exact h
      | some due => exact k.notify s _ _ h
    have ran : P ((s.reportLate e late).runAction e) :=
      x.runAction _ (by rwa [State.line_reportLate]) (x.steady (by simp) q) reported
    have told : P (((s.reportLate e late).runAction e).reportExecution e ((s.reportLate e late).decideExecution e)) := by
      unfold State.reportExecution
      split
      · exact k.notify _ _ _ ran
      · exact ran
    refine x.repeatFrom _ ?_ (x.steady (by simp) q) told
    exact (count_of_maskExec (by simp)).symm
  · exact k.notify s _ _ h

theorem executeEntries (es : List TimedEntry) (s : State) (q : ∀ e ∈ es, Q s e.core) (h : P s) :
    P (es.foldl (fun s e => s.executeEntry e.core none) s) := by
  induction es generalizing s with
  | nil => exact h
  | cons e es ih =>
    refine ih _ (fun e' mem => x.steady (fun l => s.owner_executeEntry e.core none l) (q e' (by simp [mem]))) ?_
    exact x.executeEntry k s none (q e (by simp)) h

theorem dispatch (s : State) (h : P s) : P s.dispatch := by
  have all : s.armed.filter (fun _ => true) = s.armed := List.filter_true s.armed
  have dropped := k.drop s (fun e => !(e.due = s.count)) (fun _ => true) h
  rw [all] at dropped
  exact x.executeEntries k _ _ (fun e due => x.steady (s := s) (fun _ => rfl) ((x.entries s h).1 e (List.mem_of_mem_filter due))) dropped

theorem convert (s : State) {a : ArmedEntry} (e : Word) (q : Q s a.core) (h : P s) : P (s.convert a e) := by
  unfold State.convert
  simp only
  split
  · next ahead =>
    obtain ⟨positive, below⟩ := classify_ahead_iff.mp ahead
    exact x.insert s _ q (fun _ due => absurd (distance_eq_zero_iff.mpr due) (by simp only at positive ⊢; omega)) below h
  · exact x.executeEntry k s none q h
  · split
    · exact x.executeEntry k s _ q h
    · exact k.notify s _ _ h

theorem conversions (as : List ArmedEntry) (s : State) (e : Word) (q : ∀ a ∈ as, Q s a.core) (h : P s) :
    P (as.foldl (fun s a => s.convert a e) s) := by
  induction as generalizing s with
  | nil => exact h
  | cons a as ih =>
    refine ih _ (fun a' mem => x.steady (fun l => s.owner_convert a e l) (q a' (by simp [mem]))) ?_
    exact x.convert k s e (q a (by simp)) h

theorem offer (s : State) (i : Fin 8) (d : Direction) (e : Word) (h : P s) : P (s.offer i d e) := by
  have all : s.timed.filter (fun _ => true) = s.timed := List.filter_true s.timed
  have dropped := k.drop s (fun _ => true) (fun a => !a.takes i d) h
  rw [all] at dropped
  exact x.conversions k _ _ e (fun a taken => x.steady (s := s) (fun _ => rfl) ((x.entries s h).2 a (List.mem_of_mem_filter taken))) dropped

theorem takeEvent (s : State) (e : TickEvent) (h : P s) : P (s.takeEvent e) := k.takeEvent (x.dispatch k) (x.offer k) s e h

end KeptByExecutions

end Sys2Proof.Machine
end

section
/-! PROOFS. The commands in the induction over the rows, and the rows themselves. -/

namespace Sys2Proof.Machine

/-! ### Tickets -/

theorem ticketAfter_ne_zero (t : Ticket) : ticketAfter t ≠ 0 := by
  unfold ticketAfter
  split
  · decide
  · next h => intro e; apply h; bv_omega

theorem State.freeTicket_ne_zero (s : State) (fuel : Nat) (t : Ticket) : s.freeTicket fuel t ≠ 0 := by
  induction fuel generalizing t with
  | zero => exact ticketAfter_ne_zero t
  | succ fuel ih =>
    unfold State.freeTicket
    split
    · exact ih _
    · exact ticketAfter_ne_zero t

theorem State.nextTicket_ne_zero (s : State) : s.nextTicket ≠ 0 := s.freeTicket_ne_zero _ _

/-! ### A POST that passes its checks -/

/-- What a POST that passes checks 2 to 9 has shown (R21 to R24, R46, R47). -/
structure PostPasses (s : State) (m : Master) (f : PostFields) : Prop where
  form : f.badForm = false
  range : f.badRange = false
  owned : (s.line (lineOfByte f.line)).owner = some m
  withinQuota : s.held m < s.quota m
  room : f.leavesEntry s.count = true → s.poolUsed < 64
  notLate : f.isTimed = true → flagRunLate f.flags = false → classify s.count f.due ≠ .behind
  deadline : flagDeadline f.flags = true → classify s.count f.deadline = .ahead
  fires : flagTrigger f.flags = true → selectGives (s.input f.trigger.input).select f.trigger.edge = true

theorem State.postPasses_iff (s : State) (m : Master) (f : PostFields) : s.postRefusal m f = none ↔ PostPasses s m f := by
  constructor
  · intro h
    unfold State.postRefusal at h
    split at h; · cases h
    next form =>
    split at h; · cases h
    next range =>
    split at h; · cases h
    next owned =>
    split at h; · cases h
    next quota =>
    split at h; · cases h
    next room =>
    split at h; · cases h
    next late =>
    split at h; · cases h
    next deadline =>
    split at h; · cases h
    next fires =>
    simp only [Bool.not_eq_true, Bool.and_eq_false_iff, Bool.not_eq_false', decide_eq_false_iff_not, not_not, not_le] at form range owned quota room late deadline fires
    refine ⟨form, range, owned, quota, fun l => ?_, fun t r => ?_, fun d => ?_, fun t => ?_⟩
    · exact room.resolve_left (by simp [l])
    · exact (late.resolve_right (by simp [r])).resolve_left (by simp [t])
    · exact deadline.resolve_left (by simp [d])
    · exact fires.resolve_left (by simp [t])
  · rintro ⟨form, range, owned, quota, room, late, deadline, fires⟩
    unfold State.postRefusal
    rw [if_neg (by simp [form]), if_neg (by simp [range]), if_neg (by simp [owned]), if_neg (by omega)]
    rw [if_neg, if_neg, if_neg, if_neg]
    · simp only [Bool.and_eq_true, Bool.not_eq_true', not_and, Bool.not_eq_false]; exact fires
    · simp only [Bool.and_eq_true, decide_eq_true_eq, not_and, not_not]; exact deadline
    · simp only [Bool.and_eq_true, decide_eq_true_eq, Bool.not_eq_true', not_and, Bool.not_eq_false, and_imp]
      intro timed behind
      by_contra run
      exact late timed (by simpa using run) behind
    · simp only [Bool.and_eq_true, decide_eq_true_eq, not_and, not_le]; exact room

theorem PostFields.repeatPart_core {f : PostFields} {t : Ticket} {m : Master} {r : RepeatPart} (h : (f.core t m).repeatPart = some r) :
    flagRepeat f.flags = true ∧ r = { interval := f.interval, remaining := f.executions } := by
  simp only [PostFields.core] at h
  split at h
  · next repeats => cases h; exact ⟨repeats, rfl⟩
  · cases h

/-- The entry of a POST that passes its checks is in its ranges (R13, R22). -/
theorem PostPasses.core_inRange {s : State} {m : Master} {f : PostFields} (h : PostPasses s m f) {t : Ticket} (issued : t ≠ 0) :
    (f.core t m).inRange := by
  have range := h.range
  simp only [PostFields.badRange, Bool.or_eq_false_iff, Bool.and_eq_false_iff, decide_eq_false_iff_not] at range
  obtain ⟨⟨⟨⟨-, -⟩, period⟩, interval⟩, -⟩ := range
  refine ⟨issued, ?_, ?_⟩
  · simp only [PostFields.core, PostFields.act]
    split; · trivial
    split; · trivial
    split; · trivial
    split
    · next train =>
      have := period.resolve_left (by simp [train])
      simp only [Action.inRange, TrainRecord.inRange, PostFields.train]
      bv_omega
    · trivial
  · intro r part
    obtain ⟨repeats, rfl⟩ := PostFields.repeatPart_core part
    exact interval.resolve_left (by simp [repeats])

theorem PostPasses.deadline_near {s : State} {m : Master} {f : PostFields} (h : PostPasses s m f) (d : Word) (given : f.deadline? = some d) :
    distance s.count d < 2147483648 := by
  unfold PostFields.deadline? at given
  split at given
  · next flag => cases given; exact (classify_ahead_iff.mp (h.deadline flag)).2
  · cases given

theorem PostFields.path_eq_arm {f : PostFields} {c : Word} (h : f.path c = .arm) : flagTrigger f.flags = true := by
  unfold PostFields.path at h
  split at h
  · assumption
  · split at h
    · cases h
    · split at h <;> cases h

theorem PostFields.path_eq_insert {f : PostFields} {c : Word} (h : f.path c = .insert) :
    flagTrigger f.flags = false ∧ flagImmediate f.flags = false ∧ classify c f.due = .ahead := by
  unfold PostFields.path at h
  split at h
  · cases h
  · next armed =>
    split at h
    · cases h
    · next immediate =>
      split at h
      · next ahead => exact ⟨by simpa using armed, by simpa using immediate, ahead⟩
      · cases h
      · cases h

/-- POST, by its checks: the first that fails is the answer, a POST that passes them all is accepted. -/
theorem post_cases (m : Master) (p : List Byte) (s : State) :
    (∃ r, post m p s = (s, Reply.refuse r)) ∨
      (PostPasses s m (postFields p) ∧ post m p s = s.acceptPost m (postFields p)) := by
  unfold post
  split
  · split
    · next r _ => exact .inl ⟨r, rfl⟩
    · next passes => exact .inr ⟨(s.postPasses_iff m _).mp passes, rfl⟩
  · exact .inl ⟨_, rfl⟩

/-! ### Leases -/

/-- A lease of 10 to 60,000 ms has 100 to 120,000,000 ticks at every tick unit (R7, R130). -/
theorem toNat_leaseTicks (unit : BitVec 2) {ms : BitVec 16} (high : ms.toNat ≤ 60000) :
    (leaseTicks unit ms).toNat = ms.toNat * ticksPerMs unit ∧ 10 ≤ ticksPerMs unit ∧ ticksPerMs unit ≤ 2000 := by
  have rate : 10 ≤ ticksPerMs unit ∧ ticksPerMs unit ≤ 2000 := by revert unit; decide
  have product : ms.toNat * ticksPerMs unit ≤ 60000 * 2000 := Nat.mul_le_mul high rate.2
  refine ⟨?_, rate⟩
  rw [leaseTicks, BitVec.toNat_ofNat]
  omega

theorem leaseTicks_bounds (unit : BitVec 2) {ms : BitVec 16} (low : 10 ≤ ms.toNat) (high : ms.toNat ≤ 60000) :
    100 ≤ (leaseTicks unit ms).toNat ∧ (leaseTicks unit ms).toNat ≤ 120000000 := by
  obtain ⟨ticks, least, most⟩ := toNat_leaseTicks unit high
  rw [ticks]
  exact ⟨Nat.mul_le_mul low least, Nat.mul_le_mul high most⟩

/-! ### Commands that are served -/

/-- A command is served when its length, its port and its session allow it (R139, R164, R181). -/
theorem State.served_iff (s : State) (m : Master) (c : Command) (n : Nat) :
    s.commonRefusal m c n = none ↔
      (∀ k, fixedLength c = some k → n = k) ∧ (isConfigCommand s.configPort.isSome c = true → s.configPort = some m) ∧
        sessionRefusal (sessionNeedOf s.configPort.isSome c) (s.session m) = none := by
  unfold State.commonRefusal
  cases fixedLength c with
  | none => by_cases config : isConfigCommand s.configPort.isSome c = true <;> by_cases port : s.configPort = some m <;> simp [config, port]
  | some k =>
    by_cases length : n = k
    · by_cases config : isConfigCommand s.configPort.isSome c = true <;> by_cases port : s.configPort = some m <;>
        simp [length, config, port]
    · simp [length]

/-- Only an ACTIVE master's command is served where the table of R139 asks for an ACTIVE session. -/
theorem isActive_of_served {s : State} {m : Master} {c : Command} {n : Nat} (served : s.commonRefusal m c n = none)
    (need : sessionNeedOf s.configPort.isSome c = .active) : s.isActive m = true := by
  obtain ⟨-, -, session⟩ := (s.served_iff m c n).mp served
  rw [need] at session
  unfold State.isActive
  cases h : s.session m
  · rw [h] at session; cases session
  · rfl
  · rw [h] at session; cases session

/-! ### RESET_DEVICE on the inputs and the ports -/

theorem State.softResetInputs_frame (s : State) : s.softResetInputs = { s with inputs := s.softResetInputs.inputs } := by
  unfold State.softResetInputs
  generalize allInputs = is
  exact foldl_keeps (fun u : State => { u with inputs := (is.foldl (fun (s : State) i => s.setInput i (s.input i).softReset) s).inputs })
    (fun (u : State) i => u.setInput i (u.input i).softReset) (fun _ _ => rfl) is s

theorem State.input_softResetInputs (s : State) (i : Fin 8) : s.softResetInputs.input i = (s.input i).softReset := by
  have h := view_foldl (view := State.input) (f := fun (s : State) i => s.setInput i (s.input i).softReset) (g := fun _ r => r.softReset)
    (fun _ => True) (fun _ _ _ => trivial) (fun s i j _ => s.input_setInput i j _) nodup_allInputs trivial (s := s) i
  rwa [if_pos (mem_allInputs i)] at h

theorem State.softResetPorts_frame (s : State) : s.softResetPorts = { s with ports := s.softResetPorts.ports } := rfl

theorem State.port_softResetPorts (s : State) (m : Master) : s.softResetPorts.port m = (s.port m).softReset := by cases m <;> rfl

/-- RESET_DEVICE as one update: every block but the timebase (R183). -/
theorem State.softReset_eq (s : State) :
    s.softReset =
      { s with
        timed := [], armed := [], lastTicket := 0, quotas := PerMaster.all 32, lines := Vector.replicate 16 LineRecord.initial
        gens := Vector.replicate 16 Generator.idle, inputs := s.softResetInputs.inputs, captures := PerMaster.all CaptureState.initial
        sessions := PerMaster.all .closed, notices := PerMaster.all NoticeQueue.initial
        trip := { TripRecord.initial with lastSample := s.trip.lastSample }
        ports := s.softResetPorts.ports, stallTimeouts := 0 } := by
  unfold State.softReset
  have inputs := s.softResetInputs_frame
  generalize s.softResetInputs = u at inputs ⊢
  rw [inputs]
  rfl

end Sys2Proof.Machine
end

section
/-! PROOFS. The commands and the resets in the induction over the rows, and the rows themselves. -/

namespace Sys2Proof.Machine

/-! ### The operations of the commands -/

/-- The state with all that no rule about the blocks looks at blanked: the straps, the ticket allocator, the ports, the pins, the model's marks. -/
def State.maskBus (s : State) : State :=
  { s with
    tickUnit := 0, configPort := none, i2cAddress := 0, lastTicket := 0, ports := PerMaster.all PortRecord.initial
    spiA := { receive := .idle, select := .high }, spiB := { receive := .idle, select := .high }, i2c := .idle, stallTimeouts := 0
    pins := Pins.atReset, sampled := false, inputSampleDue := false, tripSampleDue := false, draws := 0, pending := [] }

/-- The condition `P` is kept by every operation of which the commands, the samples and the resets are made, besides those of the events, and does not
look at what `State.maskBus` blanks. -/
structure KeptByCommands (P : State → Prop) : Prop extends KeptByEvents P where
  blind : ∀ s, P s.maskBus ↔ P s := by intros; exact Iff.rfl
  sample : ∀ s i, P s → P (s.sampleInput i)
  lease : ∀ s m period, (100 ≤ period.toNat ∧ period.toNat ≤ 120000000) ∨ (∃ d, s.session m = .active period d) → P s →
    P (s.startLease m period) := by intros; assumption
  claim : ∀ s m l, s.isActive m = true → (s.line l).owner = none → P s → P (s.setLine l { s.line l with owner := some m }) := by
    intros; assumption
  wait : ∀ s m l o, s.isActive m = true → (s.line l).owner = some o → o ≠ m → m ∉ (s.line l).waits → P s →
    P (s.setLine l { s.line l with waits := (s.line l).waits ++ [m] }) := by intros; assumption
  subscribe : ∀ s m set w, s.isActive m = true → 1 ≤ w → w ≤ 16 → P s →
    P (s.setCapture m { s.capture m with subscription := set, watermark := w }) := by intros; assumption
  readCaptures : ∀ s m n, s.isActive m = true → P s → P (s.setCapture m { s.capture m with queue := (s.capture m).queue.drop n, lost := 0 }) := by
    intros; assumption
  readNotices : ∀ s m n, P s → P (s.setNotices m { queue := (s.noticeQueue m).queue.drop n, lost := 0 }) := by intros; assumption
  clearTrip : ∀ s, P s → P { s with trip := { s.trip with state := .normal } } := by intros; assumption
  quota : ∀ s x n, 1 ≤ n → n ≤ 64 → P s → P { s with quotas := s.quotas.set x n } := by intros; assumption
  safe : ∀ s l v, P s → P (s.putSafe l v)
  select : ∀ s i x q, P s → P (s.setInput i { s.input i with select := x, filterLength := q }) := by intros; assumption
  softReset : ∀ s (inputs : Vector InputRecord 8), (∀ i : Fin 8, inputs[i] = (s.input i).softReset) → P s →
    P { s with
        timed := [], armed := [], quotas := PerMaster.all 32, lines := Vector.replicate 16 LineRecord.initial
        gens := Vector.replicate 16 Generator.idle, inputs := inputs, captures := PerMaster.all CaptureState.initial
        sessions := PerMaster.all .closed, notices := PerMaster.all NoticeQueue.initial
        trip := { TripRecord.initial with lastSample := s.trip.lastSample } }
  reset : ∀ st pins a b k q, P (State.afterReset st pins a b k q)

namespace KeptByCommands

variable {P : State → Prop} (k : KeptByCommands P)
include k

theorem of_maskBus {s t : State} (h : P s) (same : t.maskBus = s.maskBus) : P t := by
  rw [← k.blind t, same, k.blind s]; exact h

theorem after_openSession (m : Master) (p : List Byte) (s : State) (h : P s) : P (Machine.openSession m p s).1 := by
  unfold Machine.openSession
  split
  · exact h
  · next range =>
    simp only [Bool.or_eq_true, decide_eq_true_eq, not_or, BitVec.lt_def, not_lt] at range
    have bounds := leaseTicks_bounds s.tickUnit range.1 range.2
    unfold State.openLease
    split
    · exact k.lease s m _ (.inl bounds) h
    · exact k.lease s m _ (.inl bounds) h
    · exact k.lease _ m _ (.inl bounds) (k.empty s m h)

theorem after_renew (m : Master) (p : List Byte) (s : State) (h : P s) : P (Machine.renew m p s).1 := by
  unfold Machine.renew
  split
  · next d active => exact k.lease s m _ (.inr ⟨d, active⟩) h
  · exact h
  · exact h

theorem after_close (m : Master) (p : List Byte) (s : State) (h : P s) : P (Machine.close m p s).1 := by
  unfold Machine.close
  have purged := k.purge s m .closed h
  have lineless := s.not_owner_purge m .closed
  have captureless := (s.capture_purge m .closed m).trans (if_pos rfl)
  generalize s.purge m .closed = u at purged lineless captureless
  have emptied := k.empty u m purged
  exact k.leave _ m .closed ⟨rfl, lineless, captureless, fun _ => State.noticeQueue_setNotices_self .., by simp⟩ emptied

theorem after_claim {m : Master} (p : List Byte) {s : State} (active : s.isActive m = true) (h : P s) : P (Machine.claim m p s).1 := by
  unfold Machine.claim
  split
  · exact h
  · unfold State.claimLine
    split
    · next unowned => exact k.claim s m _ active unowned h
    · next o owned =>
      split
      · exact h
      · next other =>
        split
        · exact h
        · split
          · exact h
          · next waiting => exact k.wait s m _ o active owned other waiting h

theorem after_release (m : Master) (p : List Byte) (s : State) (h : P s) : P (Machine.release m p s).1 := by
  unfold Machine.release
  split
  · exact h
  · unfold State.releaseLine
    split
    · next owned =>
      refine k.returnLine (s.purgeLine m _) _ .released owned ?_ ?_ (k.drop s _ _ h)
      · intro e kept line poster; simp [State.purgeLine, line, poster] at kept
      · intro e kept line poster; simp [State.purgeLine, line, poster] at kept
    · split
      · exact k.withdraw s m _ h
      · exact h

theorem after_cancel (m : Master) (p : List Byte) (s : State) (h : P s) : P (Machine.cancel m p s).1 := by
  unfold Machine.cancel
  split
  · exact h
  · split
    · exact k.drop s _ _ h
    · exact h

theorem after_cancelLine (m : Master) (p : List Byte) (s : State) (h : P s) : P (Machine.cancelLine m p s).1 := by
  unfold Machine.cancelLine
  split
  · exact h
  · exact k.drop s _ _ h

theorem after_subscribe {m : Master} (p : List Byte) {s : State} (active : s.isActive m = true) (h : P s) : P (Machine.subscribe m p s).1 := by
  unfold Machine.subscribe
  split
  · exact h
  · next range =>
    simp only [Bool.or_eq_true, decide_eq_true_eq, not_or, BitVec.lt_def, not_lt] at range
    exact k.subscribe s m _ _ active (Nat.pos_of_ne_zero fun zero => range.1 (BitVec.eq_of_toNat_eq zero)) range.2 h

theorem after_readCaptures {m : Master} (p : List Byte) {s : State} (active : s.isActive m = true) (h : P s) :
    P (Machine.readCaptures m p s).1 := by
  unfold Machine.readCaptures
  split
  · exact h
  · exact k.readCaptures s m _ active h

theorem after_readNotices (m : Master) (p : List Byte) (s : State) (h : P s) : P (Machine.readNotices m p s).1 := by
  unfold Machine.readNotices
  split
  · exact h
  · exact k.readNotices s m _ h

theorem after_clearTrip (m : Master) (p : List Byte) (s : State) (h : P s) : P (Machine.clearTrip m p s).1 := by
  unfold Machine.clearTrip
  split
  · exact h
  · exact h
  · exact k.notifyAll _ _ (k.clearTrip s h)

theorem after_setQuota (m : Master) (p : List Byte) (s : State) (h : P s) : P (Machine.setQuota m p s).1 := by
  unfold Machine.setQuota
  split
  · exact h
  · split
    · exact h
    · next range =>
      simp only [Bool.or_eq_true, decide_eq_true_eq, not_or, BitVec.lt_def, not_lt] at range
      exact k.quota s _ _ (Nat.pos_of_ne_zero fun zero => range.1 (BitVec.eq_of_toNat_eq zero)) range.2 h

theorem after_setSafe (m : Master) (p : List Byte) (s : State) (h : P s) : P (Machine.setSafe m p s).1 := by
  unfold Machine.setSafe
  split
  · exact h
  · exact k.safe s _ _ h

theorem after_setInput (m : Master) (p : List Byte) (s : State) (h : P s) : P (Machine.setInput m p s).1 := by
  unfold Machine.setInput
  split
  · exact h
  · exact k.select s _ _ _ h

theorem after_resetDevice (m : Master) (p : List Byte) (s : State) (h : P s) : P (Machine.resetDevice m p s).1 := by
  refine k.of_maskBus (k.softReset s s.softResetInputs.inputs s.input_softResetInputs h) ?_
  show s.softReset.maskBus = _
  rw [State.softReset_eq]
  rfl

omit k in
theorem after_queryEntry (m : Master) (p : List Byte) (s : State) (h : P s) : P (Machine.queryEntry m p s).1 := by
  unfold Machine.queryEntry
  split
  · exact h
  · split <;> exact h

omit k in
theorem after_queryLine (m : Master) (p : List Byte) (s : State) (h : P s) : P (Machine.queryLine m p s).1 := by
  unfold Machine.queryLine
  split <;> exact h

/-- A command that is served keeps the condition, if POST does. -/
theorem after_meaning (post : ∀ m p s, P s → P (Machine.post m p s).1) (c : Command) {m : Master} (p : List Byte) {s : State}
    (served : s.commonRefusal m c p.length = none) (h : P s) : P (meaningOf c m p s).1 := by
  cases c with
  | nop => exact h
  | time => exact h
  | status => exact h
  | openSession => exact k.after_openSession m p s h
  | renew => exact k.after_renew m p s h
  | close => exact k.after_close m p s h
  | claim => exact k.after_claim p (isActive_of_served served rfl) h
  | release => exact k.after_release m p s h
  | queryLine => exact after_queryLine m p s h
  | post => exact post m p s h
  | cancel => exact k.after_cancel m p s h
  | cancelLine => exact k.after_cancelLine m p s h
  | queryEntry => exact after_queryEntry m p s h
  | subscribe => exact k.after_subscribe p (isActive_of_served served rfl) h
  | readCaptures => exact k.after_readCaptures p (isActive_of_served served rfl) h
  | readInputs => exact h
  | readNotices => exact k.after_readNotices m p s h
  | clearTrip => exact k.after_clearTrip m p s h
  | setQuota => exact k.after_setQuota m p s h
  | setSafe => exact k.after_setSafe m p s h
  | setInput => exact k.after_setInput m p s h
  | resetDevice => exact k.after_resetDevice m p s h

/-! ### Frames and samples -/

theorem after_command (post : ∀ m p s, P s → P (Machine.post m p s).1) (s : State) (m : Master) (tag : Byte) (c : Command) (p : List Byte)
    (h : P s) : P (s.command m tag c p (meaningOf c)) := by
  unfold State.command
  split
  · unfold State.takeCommand
    split
    · exact k.of_maskBus h rfl
    · next served => exact k.of_maskBus (k.after_meaning post c p served h) rfl
  · exact k.of_maskBus h rfl

theorem after_handleFrame (post : ∀ m p s, P s → P (Machine.post m p s).1) (s : State) (m : Master) (f : FrameClass) (h : P s) :
    P (s.handleFrame m f) := by
  unfold State.handleFrame
  split
  · exact h
  · exact k.of_maskBus h rfl
  · unfold State.goodFrame
    split
    · exact k.after_command post s m _ _ _ h
    · split <;> exact k.of_maskBus h rfl
  · unfold State.badFrame
    simp only
    split <;> exact k.of_maskBus h rfl

theorem takeInputSample (s : State) (h : P s) : P s.takeInputSample := by
  unfold State.takeInputSample
  split
  · have sampled : P (allInputs.foldl (fun s i => s.sampleInput i) s) :=
      List.foldlRecOn (motive := P) _ _ h fun s hs i _ => k.sample s i hs
    unfold State.sampleInputs
    generalize allInputs.foldl (fun s i => s.sampleInput i) s = u at sampled ⊢
    exact k.of_maskBus sampled rfl
  · exact h

theorem takeSamples (s : State) (h : P s) : P s.takeSamples := by
  unfold State.takeSamples
  simp only
  split
  · exact k.takeInputSample s h
  · exact k.takeTripSample _ (k.takeInputSample s h)

theorem settle (event : ∀ s e, P s → P (s.takeEvent e)) (s : State) (h : P s) : P s.settle := by
  unfold State.settle
  have samples := k.takeSamples s h
  refine List.foldlRecOn (motive := P) _ _ ?_ fun s hs e _ => event s e hs
  generalize s.takeSamples = u at samples ⊢
  exact k.of_maskBus samples rfl

end KeptByCommands

/-! ### The rows -/

/-- Every row is a command row or one of the twenty-two event rows. -/
theorem Instr.rowCases {motive : Instr → Prop} (command : ∀ c m tag p, motive (commandRow c m tag p)) (tick : motive .tick)
    (dispatch : motive .dispatch) (deadlineReached : motive .deadlineReached) (lapse : ∀ m, motive (.lapse m))
    (periodEnd : ∀ l, motive (.periodEnd l)) (highPartEnd : ∀ l, motive (.highPartEnd l)) (inputSample : ∀ v, motive (.inputSample v))
    (acceptedEdge : ∀ i, motive (.acceptedEdge i)) (trip : motive .trip) (reAssertion : motive .reAssertion)
    (powerOn : ∀ st, motive (.powerOn st)) (resetNAsserted : motive .resetNAsserted) (resetNReleased : ∀ st, motive (.resetNReleased st))
    (spiFrameStart : ∀ p, motive (.spiFrameStart p)) (spiFrameEnd : ∀ p b, motive (.spiFrameEnd p b))
    (i2cAddress : ∀ a r, motive (.i2cAddress a r)) (i2cWriteEnd : ∀ b, motive (.i2cWriteEnd b))
    (i2cResponseDelivered : motive .i2cResponseDelivered) (i2cReadEnd : ∀ n, motive (.i2cReadEnd n))
    (stallTimeout : ∀ n, motive (.stallTimeout n)) (riseOfTripN : motive .riseOfTripN)
    (stopWhileNotAddressed : motive .stopWhileNotAddressed) (i : Instr) : motive i := by
  cases i with
  | nop m tag p => exact command .nop m tag p
  | time m tag p => exact command .time m tag p
  | status m tag p => exact command .status m tag p
  | openSession m tag p => exact command .openSession m tag p
  | renew m tag p => exact command .renew m tag p
  | close m tag p => exact command .close m tag p
  | claim m tag p => exact command .claim m tag p
  | release m tag p => exact command .release m tag p
  | queryLine m tag p => exact command .queryLine m tag p
  | post m tag p => exact command .post m tag p
  | cancel m tag p => exact command .cancel m tag p
  | cancelLine m tag p => exact command .cancelLine m tag p
  | queryEntry m tag p => exact command .queryEntry m tag p
  | subscribe m tag p => exact command .subscribe m tag p
  | readCaptures m tag p => exact command .readCaptures m tag p
  | readInputs m tag p => exact command .readInputs m tag p
  | readNotices m tag p => exact command .readNotices m tag p
  | clearTrip m tag p => exact command .clearTrip m tag p
  | setQuota m tag p => exact command .setQuota m tag p
  | setSafe m tag p => exact command .setSafe m tag p
  | setInput m tag p => exact command .setInput m tag p
  | resetDevice m tag p => exact command .resetDevice m tag p
  | tick => exact tick
  | dispatch => exact dispatch
  | deadlineReached => exact deadlineReached
  | lapse m => exact lapse m
  | periodEnd l => exact periodEnd l
  | highPartEnd l => exact highPartEnd l
  | inputSample v => exact inputSample v
  | acceptedEdge i => exact acceptedEdge i
  | trip => exact trip
  | reAssertion => exact reAssertion
  | powerOn st => exact powerOn st
  | resetNAsserted => exact resetNAsserted
  | resetNReleased st => exact resetNReleased st
  | spiFrameStart p => exact spiFrameStart p
  | spiFrameEnd p b => exact spiFrameEnd p b
  | i2cAddress a r => exact i2cAddress a r
  | i2cWriteEnd b => exact i2cWriteEnd b
  | i2cResponseDelivered => exact i2cResponseDelivered
  | i2cReadEnd n => exact i2cReadEnd n
  | stallTimeout n => exact stallTimeout n
  | riseOfTripN => exact riseOfTripN
  | stopWhileNotAddressed => exact stopWhileNotAddressed

/-- A condition kept by an operation is kept by the operation as an event of the part, which takes place only while RESET_N is HIGH. -/
theorem State.unlessReset_keeps {P : State → Prop} {s : State} {f : State → State} (step : P s → P (f s)) (h : P s) : P (s.unlessReset f) := by
  unfold State.unlessReset
  split
  · exact h
  · exact step h

namespace KeptByCommands

variable {P : State → Prop} (k : KeptByCommands P)
include k

/-- A row that only moves what `State.maskBus` blanks keeps the condition. -/
theorem of_unlessReset {s : State} {f : State → State} (same : ∀ s, (f s).maskBus = s.maskBus) (h : P s) : P (s.unlessReset f) :=
  State.unlessReset_keeps (fun h => k.of_maskBus h (same s)) h

/-- The end of an SPI frame keeps the condition, before and after the frame is handled. -/
theorem after_spiFinish (post : ∀ m p s, P s → P (Machine.post m p s).1) (s : State) (p : SpiPort) (b : List Byte) (h : P s) :
    P (s.spiFinish p b) := by
  unfold State.spiFinish
  have handled := k.after_handleFrame post _ (portMaster p) (classifySpi b)
    (k.of_maskBus h rfl : P ((s.receiveBytes (portMaster p) b.length).sendBytes (portMaster p) b.length))
  exact k.of_maskBus handled (by cases p <;> rfl)

theorem after_spiEnd (post : ∀ m p s, P s → P (Machine.post m p s).1) {s : State} (settled : P s.settle) (p : SpiPort) (b : List Byte)
    (h : P s) : P (s.spiEnd p b) := by
  have noFrame : P (s.spiNoFrame p b) := k.of_maskBus h (by cases p <;> rfl)
  unfold State.spiEnd
  split
  · split
    · split
      · exact noFrame
      · exact k.after_spiFinish post _ p b settled
    · exact noFrame
  · exact h

theorem after_spiStart {s : State} (settled : P s.settle) (p : SpiPort) (h : P s) : P (s.spiStart p) := by
  unfold State.spiStart
  generalize s.settle = u at settled
  split
  · split
    · exact k.of_maskBus h (by cases p <;> rfl)
    · exact k.of_maskBus settled (by cases p <;> rfl)
  · exact h

theorem after_i2cStart (s : State) (a : BitVec 7) (read : Bool) (h : P s) : P (s.i2cStart a read) := by
  unfold State.i2cStart
  split
  · split <;> exact k.of_maskBus h rfl
  · exact k.of_maskBus h rfl

theorem after_i2cWriteFinish (post : ∀ m p s, P s → P (Machine.post m p s).1) (s : State) (b : List Byte) (h : P s) :
    P (s.i2cWriteFinish b) := by
  have handled := k.after_handleFrame post _ .c (classifyI2c b) (k.of_maskBus h rfl : P (s.receiveBytes .c b.length))
  exact k.of_maskBus handled rfl

/-- A condition that the operations, the events and POST keep, and the tick from this state, is kept by every row from this state. -/
theorem exec (event : ∀ s e, P s → P (s.takeEvent e)) (post : ∀ m p s, P s → P (Machine.post m p s).1) {s : State}
    (advance : P s → P s.settle.advance) (i : Instr) (h : P s) : ∃ t, Machine.exec i s = .next t ∧ P t := by
  have settled := k.settle event s h
  induction i using Instr.rowCases with
  | command c m tag p => exact ⟨_, exec_commandRow c m tag p s, State.unlessReset_keeps (fun _ => k.after_command post _ m tag c p settled) h⟩
  | tick => exact ⟨_, rfl, State.unlessReset_keeps advance h⟩
  | dispatch => exact ⟨_, rfl, State.unlessReset_keeps (event s .dispatch) h⟩
  | deadlineReached => exact ⟨_, rfl, State.unlessReset_keeps (event s .deadlines) h⟩
  | lapse m => exact ⟨_, rfl, State.unlessReset_keeps (event s (.lapse m)) h⟩
  | periodEnd l => exact ⟨_, rfl, State.unlessReset_keeps (event s (.periodEnd l)) h⟩
  | highPartEnd l => exact ⟨_, rfl, State.unlessReset_keeps (event s (.highPartEnd l)) h⟩
  | inputSample v => exact ⟨_, rfl, State.unlessReset_keeps (k.takeInputSample (s.setInputPins v)) (k.of_maskBus h rfl)⟩
  | acceptedEdge i => exact ⟨_, rfl, State.unlessReset_keeps (event s (.edge i)) h⟩
  | trip => exact ⟨_, rfl, State.unlessReset_keeps (k.takeTripSample (s.setTripPin .low)) (k.of_maskBus h rfl)⟩
  | reAssertion => exact ⟨_, rfl, State.unlessReset_keeps (k.takeTripSample (s.setTripPin .low)) (k.of_maskBus h rfl)⟩
  | powerOn st => exact ⟨_, rfl, k.reset ..⟩
  | resetNAsserted => exact ⟨_, rfl, k.of_maskBus (k.reset Config.resetStraps s.pins .low .low 0 []) rfl⟩
  | resetNReleased st =>
    refine ⟨_, rfl, ?_⟩
    split
    · exact k.reset ..
    · exact h
  | spiFrameStart p => exact ⟨_, rfl, k.after_spiStart settled p h⟩
  | spiFrameEnd p b => exact ⟨_, rfl, k.after_spiEnd post settled p b h⟩
  | i2cAddress a r => exact ⟨_, rfl, State.unlessReset_keeps (fun _ => k.after_i2cStart _ a r settled) h⟩
  | i2cWriteEnd b =>
    refine ⟨_, rfl, ?_⟩
    unfold State.i2cWriteEnd
    split
    · exact State.unlessReset_keeps (fun _ => k.after_i2cWriteFinish post _ b settled) h
    · exact h
    · exact h
    · exact h
  | i2cResponseDelivered => exact ⟨_, rfl, k.of_unlessReset (fun s => by unfold State.i2cDelivered; split <;> rfl) h⟩
  | i2cReadEnd n => exact ⟨_, rfl, k.of_unlessReset (fun s => by unfold State.i2cReadFinish; split <;> rfl) h⟩
  | stallTimeout n => exact ⟨_, rfl, k.of_unlessReset (fun s => by unfold State.stall; split <;> rfl) h⟩
  | riseOfTripN => exact ⟨_, rfl, State.unlessReset_keeps (k.takeTripSample (s.setTripPin .high)) (k.of_maskBus h rfl)⟩
  | stopWhileNotAddressed => exact ⟨_, rfl, k.of_unlessReset (fun s => by unfold State.stopUnaddressed; split <;> rfl) h⟩

/-- What every row keeps every step keeps: a step is a row on the queue's rest, and the condition does not look at the queue. -/
theorem step (event : ∀ s e, P s → P (s.takeEvent e)) (post : ∀ m p s, P s → P (Machine.post m p s).1) {s t : State}
    (advance : ∀ rest, P { s with pending := rest } → P ({ s with pending := rest } : State).settle.advance) (h : P s)
    (next : Machine.step s = .next t) : P t := by
  unfold Machine.step at next
  split at next
  · cases next; exact h
  · next i rest _ =>
    have popped : P { s with pending := rest } := k.of_maskBus h rfl
    obtain ⟨u, row, kept⟩ := k.exec event post (advance rest) i popped
    rw [row] at next
    cases next
    exact kept

/-- A condition that does not look at the count either is kept by the tick as by the other rows. -/
theorem step_of_uncounted (event : ∀ s e, P s → P (s.takeEvent e)) (post : ∀ m p s, P s → P (Machine.post m p s).1)
    (uncounted : ∀ s, P s → P s.advance) {s t : State} (h : P s) (next : Machine.step s = .next t) : P t :=
  k.step event post (fun _ popped => uncounted _ (k.settle event _ popped)) h next

end KeptByCommands

/-! ### POST -/

/-- An entry that a POST leaves keeps the condition, whichever list it joins. -/
structure KeptByPosts (P : State → Prop) (Q : State → EntryCore → Prop) : Prop extends KeptByExecutions P Q where
  posted : ∀ {s : State} {e}, e.inRange → (s.line e.line).owner = some e.poster → Q s e
  arm : ∀ s e, Q s e.core → (∀ d, e.deadline = some d → distance s.count d < 2147483648) → P s → P (s.arm e)

namespace KeptByPosts

variable {P : State → Prop} {Q : State → EntryCore → Prop} (k : KeptByCommands P) (x : KeptByPosts P Q)
include k x

theorem post (m : Master) (p : List Byte) (s : State) (h : P s) : P (Machine.post m p s).1 := by
  rcases post_cases m p s with ⟨r, refused⟩ | ⟨passes, accepted⟩
  · rw [refused]; exact h
  · rw [accepted]
    unfold State.acceptPost State.actPost
    simp only
    have issued : P { s with lastTicket := s.nextTicket } := k.of_maskBus h rfl
    have q : Q { s with lastTicket := s.nextTicket } ((postFields p).core s.nextTicket m) :=
      x.posted (passes.core_inRange s.nextTicket_ne_zero) passes.owned
    split
    · exact x.arm _ _ q passes.deadline_near issued
    · next insert =>
      obtain ⟨-, -, ahead⟩ := PostFields.path_eq_insert insert
      obtain ⟨positive, below⟩ := classify_ahead_iff.mp ahead
      exact x.insert _ _ q (fun _ due => absurd (distance_eq_zero_iff.mpr due) (by simp only; omega)) below issued
    · have counted := count_of_maskExec
        (State.maskExec_runAction { s with lastTicket := s.nextTicket } ((postFields p).core s.nextTicket m))
      refine x.repeatFrom _ counted.symm (x.steady (by simp) q) ?_
      exact x.runAction _ passes.owned q issued

/-- A condition that the operations, the executions and the commands keep, and that does not look at the count, is kept by every step. -/
theorem step (uncounted : ∀ s, P s → P s.advance) {s t : State} (h : P s) (next : Machine.step s = .next t) : P t :=
  k.step_of_uncounted (x.takeEvent k.toKeptByEvents) (x.post k) uncounted h next

end KeptByPosts

end Sys2Proof.Machine
end

section
/-! PROOFS. What every step keeps of the filters (R110) and of what a master may hold (R117, R138, R140, R148, R149). -/

namespace Sys2Proof.Machine

/-! ### The filters -/

/-- An input record is consistent: STABLE exactly where its raw level equals its filtered level (R110). -/
def InputRecord.consistent (r : InputRecord) : Prop := r.filter = .stable ↔ r.raw = r.filtered

theorem opposite_eq_iff (v w : Level) : opposite v = w ↔ w ≠ v := by cases v <;> cases w <;> decide

theorem InputRecord.consistent_sample (r : InputRecord) (c : Word) (v : Level) : (r.sample c v).consistent := by
  unfold InputRecord.sample
  split
  · next same => exact ⟨fun _ => same, fun _ => rfl⟩
  · next other => split <;> exact ⟨nofun, fun h => absurd h other⟩

theorem InputRecord.consistent_firstSample (r : InputRecord) (v : Level) : (r.firstSample v).consistent := ⟨fun _ => rfl, fun _ => rfl⟩

theorem InputRecord.consistent_softReset (r : InputRecord) : r.softReset.consistent := ⟨fun _ => rfl, fun _ => rfl⟩

theorem FiltersOk.setInput {s : State} (h : FiltersOk s) (i : Fin 8) {r : InputRecord} (consistent : r.consistent) : FiltersOk (s.setInput i r) := by
  intro j
  rw [State.input_setInput]
  split
  · exact consistent
  · exact h j

theorem filtersOk_afterReset (st : Straps) (pins : Pins) (a b : Level) (k : Nat) (q : List Instr) :
    FiltersOk (State.afterReset st pins a b k q) := by
  intro i
  have input : (State.afterReset st pins a b k q).input i = InputRecord.initial := by simp [State.afterReset, State.input]
  rw [input]
  decide

theorem keptFilters : KeptByCommands FiltersOk where
  accept s i since candidate h := by
    refine h.setInput i ⟨fun _ => ?_, fun _ => rfl⟩
    have unstable : (s.input i).raw ≠ (s.input i).filtered := fun same => by
      have stable := (h i).mpr same
      rw [candidate] at stable; cases stable
    exact ((opposite_eq_iff _ _).mpr unstable).symm
  number s i n h := h.setInput i (h i)
  sample s i h := by
    unfold State.sampleInput
    split
    · exact h.setInput i (InputRecord.consistent_sample ..)
    · exact h.setInput i (InputRecord.consistent_firstSample ..)
  safe s l v h := by unfold State.putSafe; split <;> exact h
  select s i x q h := h.setInput i (h i)
  softReset s inputs reset h i := by
    show InputRecord.consistent inputs[i]
    rw [reset i]
    exact (s.input i).consistent_softReset
  reset := filtersOk_afterReset

theorem FiltersOk.applyAction {s : State} (h : FiltersOk s) (l : Fin 16) (a : Action) (tk : Ticket) : FiltersOk (s.applyAction l a tk) := by
  rw [s.applyAction_frame l a tk]; exact h

theorem keptFilters_posts : KeptByPosts FiltersOk (fun _ _ => True) where
  entries _ _ := ⟨fun _ _ => trivial, fun _ _ => trivial⟩
  steady _ _ := trivial
  again _ _ _ := trivial
  insert _ _ _ _ _ h := h
  action _ e _ _ _ h := h.applyAction e.line e.action e.ticket
  posted _ _ := trivial
  arm _ _ _ _ h := h

/-! ### What a master may hold -/

/-- What master `m` may hold in the session `x`, the notice queue `q` and the capture state `k`. -/
structure MayHold (x : Session) (q : NoticeQueue) (k : CaptureState) : Prop where
  notices : q.queue.length ≤ 16
  captures : k.queue.length ≤ 16
  inactive : x.isActive = false → k = CaptureState.initial
  closed : x = .closed → q = NoticeQueue.initial
  lapsed : x = .lapsed → q.lost = 0 ∧ (q.queue = [] ∨ ∃ n, q.queue = [n] ∧ n.kind = .lapsed)

theorem holdingsOk_iff (s : State) : HoldingsOk s ↔ ∀ m, MayHold (s.session m) (s.noticeQueue m) (s.capture m) :=
  forall_congr' fun _ => ⟨fun ⟨n, c, i, cl, la⟩ => ⟨n, c, i, cl, la⟩, fun ⟨n, c, i, cl, la⟩ => ⟨n, c, i, cl, la⟩⟩

theorem length_store (q : NoticeQueue) (n : Notice) (h : q.queue.length ≤ 16) : (q.store n).queue.length ≤ 16 := by
  unfold NoticeQueue.store
  split
  · next room => simp only [List.length_append, List.length_singleton]; exact room
  · exact h

theorem length_deliver (k : CaptureState) (r : CaptureRecord) (h : k.queue.length ≤ 16) : (k.deliver r).queue.length ≤ 16 := by
  by_cases room : k.queue.length < 16
  · rw [CaptureState.deliver_of_room room]; simpa using room
  · rw [CaptureState.deliver_of_full (Nat.not_lt.mp room)]; exact h

/-- An ACTIVE master's queues are bounded, and nothing else is asked of them. -/
theorem mayHold_of_active {x : Session} {q : NoticeQueue} {k : CaptureState} (active : x.isActive = true) (notices : q.queue.length ≤ 16)
    (captures : k.queue.length ≤ 16) : MayHold x q k := by
  refine ⟨notices, captures, ?_, ?_, ?_⟩
  · intro inactive; rw [active] at inactive; cases inactive
  · rintro rfl; cases active
  · rintro rfl; cases active

/-- A read that drops the oldest notices and clears the loss count leaves what the session allows. -/
theorem MayHold.drop {x : Session} {q : NoticeQueue} {k : CaptureState} (h : MayHold x q k) (n : Nat) :
    MayHold x { queue := q.queue.drop n, lost := 0 } k := by
  refine ⟨?_, h.captures, h.inactive, fun closed => ?_, fun lapsed => ⟨rfl, ?_⟩⟩
  · have := h.notices
    simp only [List.length_drop]; omega
  · rw [h.closed closed]; simp [NoticeQueue.initial]
  · rcases (h.lapsed lapsed).2 with empty | ⟨one, queue, kind⟩
    · exact .inl (by simp [empty])
    · cases n with
      | zero => exact .inr ⟨one, queue, kind⟩
      | succ n => exact .inl (by simp [queue])

section

variable {s : State} (h : ∀ m, MayHold (s.session m) (s.noticeQueue m) (s.capture m))
include h

theorem mayHold_setNotices (m : Master) (q : NoticeQueue) (holds : MayHold (s.session m) q (s.capture m)) (x : Master) :
    MayHold (s.session x) ((s.setNotices m q).noticeQueue x) (s.capture x) := by
  rw [State.noticeQueue_setNotices]
  split
  · next e => subst e; exact holds
  · exact h x

theorem mayHold_setCapture (m : Master) (k : CaptureState) (holds : MayHold (s.session m) (s.noticeQueue m) k) (x : Master) :
    MayHold (s.session x) (s.noticeQueue x) ((s.setCapture m k).capture x) := by
  rw [State.capture_setCapture]
  split
  · next e => subst e; exact holds
  · exact h x

theorem mayHold_setSession (m : Master) (y : Session) (holds : MayHold y (s.noticeQueue m) (s.capture m)) (x : Master) :
    MayHold ((s.setSession m y).session x) (s.noticeQueue x) (s.capture x) := by
  rw [State.session_setSession]
  split
  · next e => subst e; exact holds
  · exact h x

end

theorem mayHold_initial (x : Session) : MayHold x NoticeQueue.initial CaptureState.initial :=
  ⟨by decide, by decide, fun _ => rfl, fun _ => rfl, fun _ => ⟨rfl, .inl rfl⟩⟩

theorem holdingsOk_afterReset (st : Straps) (pins : Pins) (a b : Level) (k : Nat) (q : List Instr) :
    HoldingsOk (State.afterReset st pins a b k q) := by
  rw [holdingsOk_iff]
  intro m
  have notices : (State.afterReset st pins a b k q).noticeQueue m = NoticeQueue.initial := PerMaster.get_all ..
  have captures : (State.afterReset st pins a b k q).capture m = CaptureState.initial := PerMaster.get_all ..
  rw [notices, captures]
  exact mayHold_initial _

theorem keptHoldings : KeptByCommands HoldingsOk where
  notice s m n active h := by
    rw [holdingsOk_iff] at h ⊢
    exact mayHold_setNotices h m _ (mayHold_of_active active (length_store _ n (h m).notices) (h m).captures)
  forget s m h := by
    rw [holdingsOk_iff] at h ⊢
    exact mayHold_setCapture h m _ ⟨(h m).notices, by decide, fun _ => rfl, (h m).closed, (h m).lapsed⟩
  empty s m h := by
    rw [holdingsOk_iff] at h ⊢
    exact mayHold_setNotices h m _ ⟨by decide, (h m).captures, (h m).inactive, fun _ => rfl, fun _ => ⟨rfl, .inl rfl⟩⟩
  leave s m x may h := by
    rw [holdingsOk_iff] at h ⊢
    refine mayHold_setSession h m x ⟨(h m).notices, (h m).captures, fun _ => may.captureless, may.closed, fun lapsed => ?_⟩
    exact ⟨(may.lapsed lapsed).1, .inr (may.lapsed lapsed).2⟩
  record s m r active h := by
    rw [holdingsOk_iff] at h ⊢
    exact mayHold_setCapture h m _ (mayHold_of_active active (h m).notices (length_deliver _ r (h m).captures))
  sample s i h := by unfold State.sampleInput; split <;> exact h
  lease s m period _ h := by
    rw [holdingsOk_iff] at h ⊢
    exact mayHold_setSession h m _ (mayHold_of_active rfl (h m).notices (h m).captures)
  subscribe s m set w active _ _ h := by
    rw [holdingsOk_iff] at h ⊢
    exact mayHold_setCapture h m _ (mayHold_of_active active (h m).notices (h m).captures)
  readCaptures s m n active h := by
    rw [holdingsOk_iff] at h ⊢
    have := (h m).captures
    exact mayHold_setCapture h m _ (mayHold_of_active active (h m).notices (by simp only [List.length_drop]; omega))
  readNotices s m n h := by
    rw [holdingsOk_iff] at h ⊢
    exact mayHold_setNotices h m _ ((h m).drop n)
  safe s l v h := by unfold State.putSafe; split <;> exact h
  softReset s inputs reset h := by
    rw [holdingsOk_iff]
    intro m
    simp only [State.session, State.noticeQueue, State.capture, PerMaster.get_all]
    exact mayHold_initial _
  reset := holdingsOk_afterReset

theorem keptHoldings_posts : KeptByPosts HoldingsOk (fun _ _ => True) where
  entries _ _ := ⟨fun _ _ => trivial, fun _ _ => trivial⟩
  steady _ _ := trivial
  again _ _ _ := trivial
  insert _ _ _ _ _ h := h
  action s e _ _ _ h := by rw [s.applyAction_frame e.line e.action e.ticket]; exact h
  posted _ _ := trivial
  arm _ _ _ _ h := h

end Sys2Proof.Machine
end

section
/-! PROOFS. What every step keeps of the owners and the waiters of the lines and of the posters of the entries (R63, R64). -/

namespace Sys2Proof.Machine

/-! ### The operations that move no owner and no waiter -/

/-- The state `t` has the owners and the wait lists of `s`. -/
def SameOwners (s t : State) : Prop := ∀ l, (t.line l).owner = (s.line l).owner ∧ (t.line l).waits = (s.line l).waits

theorem sameOwners_setLine (s : State) (l : Fin 16) {r : LineRecord} (owner : r.owner = (s.line l).owner) (waits : r.waits = (s.line l).waits) :
    SameOwners s (s.setLine l r) := by
  intro l'
  rw [State.line_setLine]
  split
  · next e => subst e; exact ⟨owner, waits⟩
  · exact ⟨rfl, rfl⟩

theorem sameOwners_rest (s : State) (l : Fin 16) (v : Level) : SameOwners s (s.rest l v) := sameOwners_setLine (s.setGen l _) l rfl rfl

theorem sameOwners_beginPeriod (s : State) (l : Fin 16) (g : Generator) : SameOwners s (s.beginPeriod l g) :=
  sameOwners_setLine (s.setGen l _) l rfl rfl

theorem sameOwners_putSafe (s : State) (l : Fin 16) (v : Level) : SameOwners s (s.putSafe l v) := by
  unfold State.putSafe
  split <;> exact sameOwners_setLine s l rfl rfl

theorem sameOwners_applyAction (s : State) (l : Fin 16) (a : Action) (tk : Ticket) : SameOwners s (s.applyAction l a tk) :=
  fun l' => ⟨s.owner_applyAction l l' a tk, s.waits_applyAction l l' a tk⟩

theorem sameOwners_trips {s : State} {lines : Vector LineRecord 16} {gens : Vector Generator 16}
    (rested : ∀ l : Fin 16, lines[l] = { s.line l with mode := .static, level := (s.line l).safe } ∧ gens[l] = Generator.idle) :
    SameOwners s { s.markTripped with lines := lines, gens := gens } := by
  intro l
  have line : ({ s.markTripped with lines := lines, gens := gens } : State).line l = lines[l] := rfl
  rw [line, (rested l).1]
  exact ⟨rfl, rfl⟩

/-! ### Owners and waiters are ACTIVE -/

/-- The owner and the waiters of a line are ACTIVE, its wait list without doubles and without the owner, and empty on an unowned line. -/
def LineRecord.heldByActive (r : LineRecord) (active : Master → Bool) : Prop :=
  (∀ m, r.owner = some m → active m = true) ∧ (∀ m ∈ r.waits, active m = true ∧ r.owner ≠ some m) ∧ r.waits.Nodup ∧
    (r.owner = none → r.waits = [])

theorem ownersOk_iff (s : State) : OwnersOk s ↔ ∀ l, (s.line l).heldByActive s.isActive := Iff.rfl

theorem LineRecord.heldByActive_congr {r r' : LineRecord} {active : Master → Bool} (owner : r'.owner = r.owner) (waits : r'.waits = r.waits)
    (h : r.heldByActive active) : r'.heldByActive active := by
  unfold heldByActive
  rw [owner, waits]
  exact h

/-- A line with other masters ACTIVE as well, or without those that neither own it nor wait for it. -/
theorem LineRecord.heldByActive_mono {r : LineRecord} {active active' : Master → Bool} (h : r.heldByActive active)
    (still : ∀ m, r.owner = some m ∨ m ∈ r.waits → active m = true → active' m = true) : r.heldByActive active' := by
  obtain ⟨owner, waits, nodup, unowned⟩ := h
  exact ⟨fun m o => still m (.inl o) (owner m o), fun m w => ⟨still m (.inr w) (waits m w).1, (waits m w).2⟩, nodup, unowned⟩

theorem OwnersOk.of_sameOwners {s t : State} (h : OwnersOk s) (same : SameOwners s t) (active : t.isActive = s.isActive) : OwnersOk t := by
  rw [ownersOk_iff] at h ⊢
  intro l
  rw [active]
  exact LineRecord.heldByActive_congr (same l).1 (same l).2 (h l)

theorem OwnersOk.setLine {s : State} (h : OwnersOk s) (l : Fin 16) {r : LineRecord} (held : r.heldByActive s.isActive) :
    OwnersOk (s.setLine l r) := by
  rw [ownersOk_iff] at h ⊢
  intro l'
  rw [State.line_setLine]
  split
  · exact held
  · exact h l'

theorem LineRecord.heldByActive_withdraw {r : LineRecord} {active : Master → Bool} (h : r.heldByActive active) (m : Master) :
    ({ r with waits := r.waits.filter fun w => !(w = m) } : LineRecord).heldByActive active := by
  obtain ⟨owner, waits, nodup, unowned⟩ := h
  exact ⟨owner, fun x mem => waits x (List.mem_of_mem_filter mem), nodup.filter _, fun none => by simp [unowned none]⟩

/-- A line that is returned goes to an ACTIVE waiter, the first of the others, or stays unowned with no waiter (R75). -/
theorem LineRecord.heldByActive_returned {r : LineRecord} {active : Master → Bool} (h : r.heldByActive active) :
    r.returned.heldByActive active := by
  obtain ⟨-, waits, nodup, -⟩ := h
  unfold returned heldByActive
  cases list : r.waits with
  | nil => simp
  | cons x xs =>
    rw [list] at waits nodup
    obtain ⟨fresh, nodup⟩ := List.nodup_cons.mp nodup
    refine ⟨fun m o => ?_, fun m mem => ⟨(waits m (by simp_all)).1, fun o => ?_⟩, nodup, nofun⟩
    · cases o; exact (waits x (by simp)).1
    · cases o; exact fresh mem

theorem LineRecord.heldByActive_initial (active : Master → Bool) : LineRecord.initial.heldByActive active :=
  ⟨nofun, nofun, List.nodup_nil, fun _ => rfl⟩

theorem isActive_setSession (s : State) (m x : Master) (y : Session) : (s.setSession m y).isActive x = if x = m then y.isActive else s.isActive x := by
  unfold State.isActive
  rw [State.session_setSession]
  split <;> rfl

theorem line_replicate (s : State) (gens : Vector Generator 16) (l : Fin 16) :
    ({ s with lines := Vector.replicate 16 LineRecord.initial, gens := gens } : State).line l = LineRecord.initial := by
  simp [State.line]

theorem keptOwners : KeptByCommands OwnersOk where
  rest s l v _ h := h.of_sameOwners (sameOwners_rest s l v) rfl
  begins s l j n _ _ h := h.of_sameOwners (sameOwners_beginPeriod s l _) rfl
  falls s l _ h := h.of_sameOwners (sameOwners_setLine s l rfl rfl) rfl
  withdraw s m l h := h.setLine l (LineRecord.heldByActive_withdraw (h l) m)
  returned s l _ _ _ _ h := OwnersOk.setLine (s := s.setGen l Generator.idle) h l (LineRecord.heldByActive_returned (h l))
  leave s m x may h := by
    rw [ownersOk_iff] at h ⊢
    refine fun l => LineRecord.heldByActive_mono (h l) fun y held active => ?_
    have other : y ≠ m := by
      rintro rfl
      exact held.elim (may.lineless l).1 (may.lineless l).2
    rw [isActive_setSession, if_neg other]
    exact active
  trips s lines gens rested h := h.of_sameOwners (sameOwners_trips rested) rfl
  sample s i h := by unfold State.sampleInput; split <;> exact h
  lease s m period _ h := by
    rw [ownersOk_iff] at h ⊢
    refine fun l => LineRecord.heldByActive_mono (h l) fun y _ active => ?_
    rw [State.startLease, isActive_setSession]
    split
    · rfl
    · exact active
  claim s m l active unowned h := by
    obtain ⟨-, -, -, empty⟩ := h l
    refine h.setLine l ⟨fun x o => ?_, ?_, ?_, nofun⟩
    · cases o; exact active
    · rw [empty unowned]; nofun
    · rw [empty unowned]; exact List.nodup_nil
  wait s m l o active owned other fresh h := by
    obtain ⟨owner, waits, nodup, -⟩ := h l
    refine h.setLine l ⟨owner, fun x mem => ?_, ?_, fun unowned => ?_⟩
    · rcases List.mem_append.mp mem with before | last
      · exact waits x before
      · cases List.mem_singleton.mp last
        refine ⟨active, ?_⟩
        rw [owned]
        exact fun same => other (Option.some.inj same)
    · simpa [List.nodup_append] using ⟨nodup, fun x mem e => fresh (e ▸ mem)⟩
    · simp only [owned] at unowned; cases unowned
  safe s l v h := h.of_sameOwners (sameOwners_putSafe s l v) (by unfold State.putSafe; split <;> rfl)
  softReset s inputs reset h := by
    rw [ownersOk_iff]
    intro l
    simp only [State.line, Fin.getElem_fin, Vector.getElem_replicate]
    exact LineRecord.heldByActive_initial _
  reset st pins a b k q := by
    rw [ownersOk_iff]
    intro l
    simp only [State.line, State.afterReset, Fin.getElem_fin, Vector.getElem_replicate]
    exact LineRecord.heldByActive_initial _

theorem keptOwners_posts : KeptByPosts OwnersOk (fun _ _ => True) where
  entries _ _ := ⟨fun _ _ => trivial, fun _ _ => trivial⟩
  steady _ _ := trivial
  again _ _ _ := trivial
  insert _ _ _ _ _ h := h
  action s e _ _ _ h := by
    refine h.of_sameOwners (sameOwners_applyAction s e.line e.action e.ticket) ?_
    rw [s.applyAction_frame e.line e.action e.ticket]; rfl
  posted _ _ := trivial
  arm _ _ _ _ h := h

/-! ### Posters own their lines -/

/-- An entry of a line that its poster owns (R63). -/
def Posted (s : State) (e : EntryCore) : Prop := (s.line e.line).owner = some e.poster

theorem entriesOwned_iff (s : State) : EntriesOwned s ↔ (∀ e ∈ s.timed, Posted s e.core) ∧ ∀ e ∈ s.armed, Posted s e.core := Iff.rfl

theorem EntriesOwned.of_owners {s t : State} (h : EntriesOwned s) (timed : t.timed = s.timed) (armed : t.armed = s.armed)
    (owners : ∀ l m, (s.line l).owner = some m → (∃ e ∈ s.timed, e.core.line = l) ∨ (∃ e ∈ s.armed, e.core.line = l) →
      (t.line l).owner = some m) : EntriesOwned t := by
  obtain ⟨ht, ha⟩ := h
  unfold EntriesOwned
  rw [timed, armed]
  exact ⟨fun e mem => owners _ _ (ht e mem) (.inl ⟨e, mem, rfl⟩), fun e mem => owners _ _ (ha e mem) (.inr ⟨e, mem, rfl⟩)⟩

theorem EntriesOwned.of_sameOwners {s t : State} (h : EntriesOwned s) (timed : t.timed = s.timed) (armed : t.armed = s.armed)
    (same : SameOwners s t) : EntriesOwned t :=
  h.of_owners timed armed fun l _ o _ => (same l).1.trans o

/-- A new record for a line whose owner stands, or that no entry is for. -/
theorem EntriesOwned.setLine {s : State} (h : EntriesOwned s) (l : Fin 16) (r : LineRecord)
    (owner : r.owner = (s.line l).owner ∨ ((∀ e ∈ s.timed, e.core.line ≠ l) ∧ ∀ e ∈ s.armed, e.core.line ≠ l)) :
    EntriesOwned (s.setLine l r) := by
  refine h.of_owners rfl rfl fun l' m o entry => ?_
  rw [State.line_setLine]
  split
  · next e =>
    subst e
    rcases owner with same | ⟨timed, armed⟩
    · exact same.trans o
    · rcases entry with ⟨e, mem, line⟩ | ⟨e, mem, line⟩
      · exact absurd line (timed e mem)
      · exact absurd line (armed e mem)
  · exact o

theorem keptPosters : KeptByCommands EntriesOwned where
  drop s f g h := ⟨fun e mem => h.1 e (List.mem_of_mem_filter mem), fun e mem => h.2 e (List.mem_of_mem_filter mem)⟩
  rest s l v _ h := h.of_sameOwners rfl rfl (sameOwners_rest s l v)
  begins s l j n _ _ h := h.of_sameOwners rfl rfl (sameOwners_beginPeriod s l _)
  falls s l _ h := h.of_sameOwners rfl rfl (sameOwners_setLine s l rfl rfl)
  withdraw s m l h := h.setLine l _ (.inl rfl)
  returned s l m owned timed armed h := by
    -- an entry for the line would be its owner's
    refine EntriesOwned.setLine (s := s.setGen l Generator.idle) h l _ (.inr ⟨fun e mem line => ?_, fun e mem line => ?_⟩)
    · have own := h.1 e mem
      rw [line, owned] at own
      exact timed e mem line (Option.some.inj own).symm
    · have own := h.2 e mem
      rw [line, owned] at own
      exact armed e mem line (Option.some.inj own).symm
  trips s lines gens rested h := h.of_sameOwners rfl rfl (sameOwners_trips rested)
  sample s i h := by unfold State.sampleInput; split <;> exact h
  claim s m l _ unowned h := by
    refine h.setLine l _ (.inr ⟨fun e mem line => ?_, fun e mem line => ?_⟩)
    · have own := h.1 e mem
      rw [line, unowned] at own; cases own
    · have own := h.2 e mem
      rw [line, unowned] at own; cases own
  wait s m l o _ _ _ _ h := h.setLine l _ (.inl rfl)
  safe s l v h := by
    refine h.of_sameOwners ?_ ?_ (sameOwners_putSafe s l v)
    all_goals unfold State.putSafe; split <;> rfl
  softReset s inputs reset h := ⟨fun _ mem => absurd mem List.not_mem_nil, fun _ mem => absurd mem List.not_mem_nil⟩
  reset st pins a b k q := ⟨fun _ mem => absurd mem List.not_mem_nil, fun _ mem => absurd mem List.not_mem_nil⟩

theorem keptPosters_posts : KeptByPosts EntriesOwned Posted where
  entries s h := h
  steady owners q := (owners _).trans q
  again _ _ q := q
  insert s e q _ _ h := by
    refine ⟨fun x mem => ?_, h.2⟩
    rcases (mem_insertByDue _ _ _ _).mp mem with same | old
    · rw [same]; exact q
    · exact h.1 x old
  action s e _ _ _ h := by
    refine h.of_sameOwners ?_ ?_ (sameOwners_applyAction s e.line e.action e.ticket)
    all_goals rw [s.applyAction_frame e.line e.action e.ticket]
  posted _ owned := owned
  arm s e q _ h := by
    refine ⟨h.1, fun x mem => ?_⟩
    rcases List.mem_append.mp mem with old | new
    · exact h.2 x old
    · rw [List.mem_singleton.mp new]; exact q

end Sys2Proof.Machine
end

section
/-! PROOFS. What every step keeps of the lines and their generators (R65, R66, R89, R161). -/

namespace Sys2Proof.Machine

/-- A line record and its generator are in step, in the trip state `x`. -/
structure LineInStep (x : TripState) (r : LineRecord) (g : Generator) : Prop where
  mode : r.mode = .train ↔ g.state ≠ .idle
  idle : g.state = .idle → g = Generator.idle
  stopping : g.state = .stopping → g.staged = none
  safe : r.owner = none ∨ x = .tripped → r.mode = .static ∧ r.level = r.safe

theorem linesOk_iff (s : State) : LinesOk s ↔ ∀ l, LineInStep s.trip.state (s.line l) (s.gen l) :=
  forall_congr' fun _ => ⟨fun ⟨m, i, st, sa⟩ => ⟨m, i, st, sa⟩, fun ⟨m, i, st, sa⟩ => ⟨m, i, st, sa⟩⟩

/-- A line with a train is owned, and the part is not tripped. -/
theorem LineInStep.driven {x : TripState} {r : LineRecord} {g : Generator} (h : LineInStep x r g) (busy : g.state ≠ .idle) :
    ¬ (r.owner = none ∨ x = .tripped) := by
  intro safe
  have static := (h.safe safe).1
  rw [h.mode.mpr busy] at static
  cases static

theorem lineInStep_rested (x : TripState) (r : LineRecord) {v : Level} (level : r.owner = none ∨ x = .tripped → v = r.safe) :
    LineInStep x { r with mode := .static, level := v } Generator.idle :=
  ⟨⟨nofun, fun busy => absurd rfl busy⟩, fun _ => rfl, nofun, fun safe => ⟨rfl, level safe⟩⟩

/-- A line in TRAIN mode over a generator that is not IDLE, where a train is allowed. -/
theorem lineInStep_train {x : TripState} {r : LineRecord} {g : Generator} (mode : r.mode = .train) (busy : g.state ≠ .idle)
    (stopping : g.state = .stopping → g.staged = none) (driven : ¬ (r.owner = none ∨ x = .tripped)) : LineInStep x r g :=
  ⟨⟨fun _ => busy, fun _ => mode⟩, fun idle => absurd idle busy, stopping, fun safe => absurd safe driven⟩

/-- An update of one line and its generator. -/
theorem LinesOk.of_one {s t : State} (h : LinesOk s) (trip : t.trip.state = s.trip.state) (l : Fin 16)
    (others : ∀ l', l' ≠ l → t.line l' = s.line l' ∧ t.gen l' = s.gen l') (here : LineInStep s.trip.state (t.line l) (t.gen l)) : LinesOk t := by
  rw [linesOk_iff] at h ⊢
  intro l'
  rw [trip]
  by_cases e : l' = l
  · subst e; exact here
  · rw [(others l' e).1, (others l' e).2]; exact h l'

theorem LinesOk.setLine {s : State} (h : LinesOk s) (l : Fin 16) {r : LineRecord} (here : LineInStep s.trip.state r (s.gen l)) :
    LinesOk (s.setLine l r) :=
  h.of_one rfl l (fun _ ne => ⟨s.line_setLine_ne r ne, rfl⟩) (by rwa [State.line_setLine_self])

theorem LinesOk.setGen {s : State} (h : LinesOk s) (l : Fin 16) {g : Generator} (here : LineInStep s.trip.state (s.line l) g) :
    LinesOk (s.setGen l g) :=
  h.of_one rfl l (fun _ ne => ⟨rfl, s.gen_setGen_ne g ne⟩) (by rwa [State.gen_setGen_self])

theorem LinesOk.setGen_setLine {s : State} (h : LinesOk s) (l : Fin 16) {r : LineRecord} {g : Generator}
    (here : LineInStep s.trip.state r g) : LinesOk ((s.setGen l g).setLine l r) :=
  h.of_one rfl l (fun _ ne => ⟨(s.setGen l g).line_setLine_ne r ne, s.gen_setGen_ne g ne⟩) (by
    rw [State.line_setLine_self, State.gen_setLine, State.gen_setGen_self]; exact here)

theorem LinesOk.rest {s : State} (h : LinesOk s) (l : Fin 16) {v : Level}
    (level : (s.line l).owner = none ∨ s.trip.state = .tripped → v = (s.line l).safe) : LinesOk (s.rest l v) :=
  h.setGen_setLine l (lineInStep_rested _ _ level)

/-- A new period of a running train, on a line where a train is allowed. -/
theorem LinesOk.beginPeriod {s : State} (h : LinesOk s) (l : Fin 16) {g : Generator} (running : g.state = .running)
    (driven : ¬ ((s.line l).owner = none ∨ s.trip.state = .tripped)) : LinesOk (s.beginPeriod l g) := by
  have state : (g.newPeriod s.count).state = .running := running
  exact h.setGen_setLine l (lineInStep_train rfl (by rw [state]; decide) (by rw [state]; nofun) driven)

/-- An action on a line of its poster, while the part is not tripped. -/
theorem LinesOk.applyAction {s : State} (h : LinesOk s) (l : Fin 16) (a : Action) (tk : Ticket)
    (driven : ¬ ((s.line l).owner = none ∨ s.trip.state = .tripped)) : LinesOk (s.applyAction l a tk) := by
  have here := (linesOk_iff s).mp h l
  cases a with
  | driveLow => exact h.rest l fun safe => absurd safe driven
  | driveHigh => exact h.rest l fun safe => absurd safe driven
  | toggle => exact h.rest l fun safe => absurd safe driven
  | train r =>
    simp only [State.applyAction, State.trainAction]
    split
    · exact h.beginPeriod l rfl driven
    · next running =>
      have busy : (s.gen l).state ≠ .idle := by rw [running]; decide
      exact h.setGen l (lineInStep_train (here.mode.mpr busy) busy (by simp only [running]; nofun) driven)
    · next stopping =>
      have busy : (s.gen l).state ≠ .idle := by rw [stopping]; decide
      exact h.setGen l (lineInStep_train (here.mode.mpr busy) nofun nofun driven)
  | trainStop =>
    simp only [State.applyAction, State.trainStop]
    split
    · next running =>
      have busy : (s.gen l).state ≠ .idle := by rw [running]; decide
      exact h.setGen l (lineInStep_train (here.mode.mpr busy) nofun (fun _ => rfl) driven)
    · exact h
    · exact h

theorem lineInStep_initial (x : TripState) : LineInStep x LineRecord.initial Generator.idle :=
  ⟨by decide, fun _ => rfl, nofun, fun _ => ⟨rfl, rfl⟩⟩

theorem keptLines : KeptByCommands LinesOk where
  rest s l v busy h := h.rest l fun safe => absurd safe (((linesOk_iff s).mp h l).driven busy)
  begins s l j n running _ h := by
    have busy : (s.gen l).state ≠ .idle := by rw [running]; decide
    exact h.beginPeriod l running (((linesOk_iff s).mp h l).driven busy)
  falls s l busy h := by
    have here := (linesOk_iff s).mp h l
    exact h.setLine l (lineInStep_train (here.mode.mpr busy) busy here.stopping (here.driven busy))
  withdraw s m l h := by
    obtain ⟨mode, idle, stopping, safe⟩ := (linesOk_iff s).mp h l
    exact h.setLine l ⟨mode, idle, stopping, safe⟩
  returned s l m _ _ _ h := h.setGen_setLine l ⟨⟨nofun, fun busy => absurd rfl busy⟩, fun _ => rfl, nofun, fun _ => ⟨rfl, rfl⟩⟩
  trips s lines gens rested h := by
    rw [linesOk_iff]
    intro l
    have line : ({ s.markTripped with lines := lines, gens := gens } : State).line l = lines[l] := rfl
    have gen : ({ s.markTripped with lines := lines, gens := gens } : State).gen l = gens[l] := rfl
    rw [line, gen, (rested l).1, (rested l).2]
    exact lineInStep_rested _ _ fun _ => rfl
  sample s i h := by unfold State.sampleInput; split <;> exact h
  claim s m l _ unowned h := by
    obtain ⟨mode, idle, stopping, safe⟩ := (linesOk_iff s).mp h l
    exact h.setLine l ⟨mode, idle, stopping, fun _ => safe (.inl unowned)⟩
  wait s m l o _ _ _ _ h := by
    obtain ⟨mode, idle, stopping, safe⟩ := (linesOk_iff s).mp h l
    exact h.setLine l ⟨mode, idle, stopping, safe⟩
  clearTrip s h := by
    rw [linesOk_iff] at h ⊢
    intro l
    obtain ⟨mode, idle, stopping, safe⟩ := h l
    exact ⟨mode, idle, stopping, fun unowned => safe (.inl (unowned.resolve_right nofun))⟩
  safe s l v h := by
    obtain ⟨mode, idle, stopping, safe⟩ := (linesOk_iff s).mp h l
    unfold State.putSafe
    split
    · next drives => exact h.setLine l ⟨mode, idle, stopping, fun _ => ⟨(safe drives).1, rfl⟩⟩
    · next keeps => exact h.setLine l ⟨mode, idle, stopping, fun drives => absurd drives keeps⟩
  softReset s inputs reset h := by
    rw [linesOk_iff]
    intro l
    simp only [State.line, State.gen, Fin.getElem_fin, Vector.getElem_replicate]
    exact lineInStep_initial _
  reset st pins a b k q := by
    rw [linesOk_iff]
    intro l
    simp only [State.line, State.gen, State.afterReset, Fin.getElem_fin, Vector.getElem_replicate]
    exact lineInStep_initial _

theorem keptLines_posts : KeptByPosts LinesOk (fun _ _ => True) where
  entries _ _ := ⟨fun _ _ => trivial, fun _ _ => trivial⟩
  steady _ _ := trivial
  again _ _ _ := trivial
  insert _ _ _ _ _ h := h
  action s e _ owned normal h := h.applyAction e.line e.action e.ticket (by simp [owned, normal])
  posted _ _ := trivial
  arm _ _ _ _ h := h

end Sys2Proof.Machine
end

section
/-! PROOFS. What every step keeps of the fields of entries and generators, the quotas and the watermarks (R13, R14, R88, R91, R117). -/

namespace Sys2Proof.Machine

/-! ### Generators -/

/-- A train job is in its ranges: its record, and a source ticket (R88). -/
def TrainJob.inRange (j : TrainJob) : Prop := j.record.inRange ∧ j.source ≠ 0

theorem Generator.inRange_idle : Generator.idle.inRange := ⟨fun busy => absurd rfl busy, nofun⟩

/-- A period of a job in its ranges: P ticks, or P + 1 (R91). -/
theorem Generator.inRange_newPeriod {g : Generator} (t : Word) (job : g.current.inRange) (staged : g.staged = none) :
    (g.newPeriod t).inRange := by
  refine ⟨fun _ => ⟨job.1, job.2, ?_⟩, fun j h => ?_⟩
  · rw [newPeriod_periodLength, newPeriod_current]
    split
    · exact .inr rfl
    · exact .inl rfl
  · have : g.staged = some j := h
    rw [staged] at this; cases this

/-- A generator that keeps its period, its state moved and another job staged, or none. -/
theorem Generator.inRange_stage {g : Generator} (h : g.inRange) (busy : g.state ≠ .idle) (x : GenState) {staged : Option TrainJob}
    (jobs : ∀ j, staged = some j → j.inRange) : ({ g with state := x, staged := staged } : Generator).inRange :=
  ⟨fun _ => h.1 busy, jobs⟩

/-- A period has at most 65536 ticks, and at least 2 when the job is in its ranges. -/
theorem Generator.periodLength_bounds {g : Generator} (h : g.inRange) (busy : g.state ≠ .idle) : 2 ≤ g.periodLength ∧ g.periodLength ≤ 65536 := by
  obtain ⟨period, -, length⟩ := h.1 busy
  have least : 2 ≤ g.current.record.period.toNat := period
  have most := g.current.record.period.isLt
  omega

/-! ### The state -/

/-- The generators' part of `FieldsOk`. -/
def GensOk (s : State) : Prop := ∀ l, (s.gen l).inRange

/-- The entries' part of `FieldsOk`. -/
def EntriesOk (s : State) : Prop := (∀ e ∈ s.timed, e.core.inRange) ∧ ∀ e ∈ s.armed, e.core.inRange

/-- The masters' part of `FieldsOk`. -/
def LimitsOk (s : State) : Prop := ∀ m, (1 ≤ s.quota m ∧ s.quota m ≤ 64) ∧ 1 ≤ (s.capture m).watermark ∧ (s.capture m).watermark ≤ 16

theorem fieldsOk_iff (s : State) : FieldsOk s ↔ EntriesOk s ∧ GensOk s ∧ LimitsOk s :=
  ⟨fun ⟨t, a, g, m⟩ => ⟨⟨t, a⟩, g, m⟩, fun ⟨⟨t, a⟩, g, m⟩ => ⟨t, a, g, m⟩⟩

/-- A state with other entries, generators and limits, each part in its ranges. -/
theorem FieldsOk.of_parts {s t : State} (h : FieldsOk s) (entries : EntriesOk s → EntriesOk t) (gens : GensOk s → GensOk t)
    (limits : LimitsOk s → LimitsOk t) : FieldsOk t := by
  obtain ⟨e, g, m⟩ := (fieldsOk_iff s).mp h
  exact (fieldsOk_iff t).mpr ⟨entries e, gens g, limits m⟩

theorem GensOk.setGen {s : State} (h : GensOk s) (l : Fin 16) {g : Generator} (here : g.inRange) : GensOk (s.setGen l g) := by
  intro l'
  rw [State.gen_setGen]
  split
  · exact here
  · exact h l'

theorem GensOk.beginPeriod {s : State} (h : GensOk s) (l : Fin 16) {g : Generator} (job : g.current.inRange) (staged : g.staged = none) :
    GensOk (s.beginPeriod l g) :=
  GensOk.setGen h l (Generator.inRange_newPeriod s.count job staged)

theorem GensOk.applyAction {s : State} (h : GensOk s) (l : Fin 16) {a : Action} {tk : Ticket} (action : a.inRange) (issued : tk ≠ 0) :
    GensOk (s.applyAction l a tk) := by
  cases a with
  | driveLow => exact GensOk.setGen h l Generator.inRange_idle
  | driveHigh => exact GensOk.setGen h l Generator.inRange_idle
  | toggle => exact GensOk.setGen h l Generator.inRange_idle
  | train r =>
    have job : TrainJob.inRange { record := r, source := tk } := ⟨action, issued⟩
    have jobs : ∀ j : TrainJob, some { record := r, source := tk } = some j → j.inRange := by rintro j ⟨⟩; exact job
    simp only [State.applyAction, State.trainAction]
    split
    · exact h.beginPeriod l job rfl
    · next running => exact h.setGen l (Generator.inRange_stage (h l) (by rw [running]; decide) (s.gen l).state jobs)
    · next stopping => exact h.setGen l (Generator.inRange_stage (h l) (by rw [stopping]; decide) .running jobs)
  | trainStop =>
    simp only [State.applyAction, State.trainStop]
    split
    · next running => exact h.setGen l (Generator.inRange_stage (h l) (by rw [running]; decide) .stopping nofun)
    · exact h
    · exact h

theorem LimitsOk.setCapture {s : State} (h : LimitsOk s) (m : Master) {k : CaptureState} (watermark : 1 ≤ k.watermark ∧ k.watermark ≤ 16) :
    LimitsOk (s.setCapture m k) := by
  intro x
  rw [State.capture_setCapture, State.quota_setCapture]
  refine ⟨(h x).1, ?_⟩
  split
  · exact watermark
  · exact (h x).2

@[simp] theorem watermark_deliver (k : CaptureState) (r : CaptureRecord) : (k.deliver r).watermark = k.watermark := by
  unfold CaptureState.deliver; split <;> rfl

theorem limitsOk_reset {s : State} (quotas : s.quotas = PerMaster.all 32) (captures : s.captures = PerMaster.all CaptureState.initial) :
    LimitsOk s := by
  intro m
  simp only [State.quota, State.capture, quotas, captures, PerMaster.get_all]
  decide

theorem gensOk_reset {s : State} (gens : s.gens = Vector.replicate 16 Generator.idle) : GensOk s := by
  intro l
  simp only [State.gen, gens, Fin.getElem_fin, Vector.getElem_replicate]
  exact Generator.inRange_idle

theorem keptFields : KeptByCommands FieldsOk where
  drop s f g h := h.of_parts
    (fun ⟨t, a⟩ => ⟨fun e mem => t e (List.mem_of_mem_filter mem), fun e mem => a e (List.mem_of_mem_filter mem)⟩) id id
  rest s l v _ h := h.of_parts id (fun g => GensOk.setGen g l Generator.inRange_idle) id
  begins s l j n running source h := by
    have busy : (s.gen l).state ≠ .idle := by rw [running]; decide
    refine h.of_parts id (fun g => g.beginPeriod l ?_ rfl) id
    have here : (s.gen l).inRange := (((fieldsOk_iff s).mp h).2.1) l
    rcases source with current | staged
    · rw [current]; exact ⟨(here.1 busy).1, (here.1 busy).2.1⟩
    · exact here.2 j staged
  returned s l m _ _ _ h := h.of_parts id (fun g => GensOk.setGen g l Generator.inRange_idle) id
  forget s m h := h.of_parts id id fun k => k.setCapture m (by decide)
  record s m r _ h := h.of_parts id id fun k => k.setCapture m (by rw [watermark_deliver]; exact (k m).2)
  trips s lines gens rested h := h.of_parts id (fun _ l => by
    show Generator.inRange gens[l]
    rw [(rested l).2]; exact Generator.inRange_idle) id
  sample s i h := by unfold State.sampleInput; split <;> exact h
  subscribe s m set w _ low high h := h.of_parts id id fun k => k.setCapture m ⟨low, high⟩
  readCaptures s m n _ h := h.of_parts id id fun k => k.setCapture m (k m).2
  quota s x n low high h := h.of_parts id id fun k y => by
    refine ⟨?_, (k y).2⟩
    simp only [State.quota, PerMaster.get_set]
    split
    · exact ⟨low, high⟩
    · exact (k y).1
  safe s l v h := by unfold State.putSafe; split <;> exact h
  softReset s inputs reset h := h.of_parts
    (fun _ => ⟨fun _ mem => absurd mem List.not_mem_nil, fun _ mem => absurd mem List.not_mem_nil⟩) (fun _ => gensOk_reset rfl)
    (fun _ => limitsOk_reset rfl rfl)
  reset st pins a b k q := (fieldsOk_iff _).mpr
    ⟨⟨fun _ mem => absurd mem List.not_mem_nil, fun _ mem => absurd mem List.not_mem_nil⟩, gensOk_reset rfl, limitsOk_reset rfl rfl⟩

theorem keptFields_posts : KeptByPosts FieldsOk (fun _ e => e.inRange) where
  entries s h := ((fieldsOk_iff s).mp h).1
  steady _ q := q
  again part after q := by
    refine ⟨q.1, q.2.1, fun r same => ?_⟩
    cases same
    rw [RepeatPart.interval_afterExecution after]
    exact q.2.2 _ part
  insert s e q _ _ h := by
    refine h.of_parts (fun ⟨t, a⟩ => ⟨fun x mem => ?_, a⟩) id id
    rcases (mem_insertByDue _ _ _ _).mp mem with same | old
    · rw [same]; exact q
    · exact t x old
  action s e q _ _ h := by
    refine h.of_parts ?_ (fun g => g.applyAction e.line q.2.1 q.1) ?_
    all_goals rw [s.applyAction_frame e.line e.action e.ticket]; exact id
  posted range _ := range
  arm s e q _ h := by
    refine h.of_parts (fun ⟨t, a⟩ => ⟨t, fun x mem => ?_⟩) id id
    rcases List.mem_append.mp mem with old | new
    · exact a x old
    · rw [List.mem_singleton.mp new]; exact q

end Sys2Proof.Machine
end

section
/-! PROOFS. Settling holds nothing over: an event that is taken is no longer due, and no event makes another due at its own tick (R4, R30). -/

namespace Sys2Proof.Machine

/-! ### Times that are not now -/

theorem add_ne_self {c : Word} {n : Nat} (positive : 0 < n) (small : n < 4294967296) : c ≠ c + BitVec.ofNat 32 n := by
  intro same
  have now : distance c (c + BitVec.ofNat 32 n) = 0 := distance_eq_zero_iff.mpr same.symm
  rw [distance_add, BitVec.toNat_ofNat] at now
  omega

/-- A period that begins now does not end now. -/
theorem Generator.not_end_newPeriod {g : Generator} (c : Word) (job : g.current.inRange) :
    c ≠ (g.newPeriod c).periodStart + BitVec.ofNat 32 (g.newPeriod c).periodLength := by
  have least : 2 ≤ g.current.record.period.toNat := job.1
  have most := g.current.record.period.isLt
  rw [Generator.newPeriod_periodLength]
  refine add_ne_self ?_ ?_ <;> split <;> omega

/-- A high part that begins now does not end now. -/
theorem not_high_end_now {c : Word} {h : BitVec 16} (high : 0 < h.toNat) : c ≠ c + h.setWidth 32 := by
  have most := h.isLt
  have width : h.setWidth 32 = BitVec.ofNat 32 h.toNat := by
    apply BitVec.eq_of_toNat_eq
    simp only [BitVec.toNat_setWidth, BitVec.toNat_ofNat]
  rw [width]
  exact add_ne_self high (by omega)

/-! ### Events that are not due -/

/-- The event is not due in the state: `DueRow` of its row, denied and taken apart. -/
def NotDue (s : State) : TickEvent → Prop
  | .dispatch => ∀ e ∈ s.timed, e.due ≠ s.count
  | .deadlines => ∀ e ∈ s.armed, e.deadline ≠ some s.count
  | .lapse m => ∀ period, s.session m ≠ .active period s.count
  | .periodEnd l => (s.gen l).state ≠ .idle → s.count ≠ (s.gen l).periodStart + BitVec.ofNat 32 (s.gen l).periodLength
  | .highPartEnd l =>
    (s.gen l).state ≠ .idle → 0 < (s.gen l).current.record.highTime.toNat →
      (s.gen l).current.record.highTime.toNat < (s.gen l).periodLength →
      s.count = (s.gen l).periodStart + (s.gen l).current.record.highTime.setWidth 32 → (s.line l).level ≠ .high
  | .edge i => ∀ since, (s.input i).filter ≠ .candidate since true
  | .trip => s.tripSampleDue = true → s.trip.state = .normal → s.pins.tripN ≠ .low

theorem notDue_iff (s : State) (e : TickEvent) : NotDue s e ↔ ¬ DueRow s (eventRow e) := by
  cases e <;> simp [NotDue, DueRow, eventRow]

/-- The fields are in their ranges and no event of `done` is due. -/
def Settled (done : TickEvent → Prop) (s : State) : Prop := FieldsOk s ∧ ∀ e, done e → NotDue s e

/-- Neither the period end nor the high part end of line `l` is due, unless it was due in `s`. -/
def RestsAt (s t : State) (l : Fin 16) : Prop :=
  (NotDue s (.periodEnd l) → NotDue t (.periodEnd l)) ∧ (NotDue s (.highPartEnd l) → NotDue t (.highPartEnd l))

/-- An IDLE generator has nothing due. -/
theorem notDue_of_idle {t : State} {l : Fin 16} (idle : t.gen l = Generator.idle) : NotDue t (.periodEnd l) ∧ NotDue t (.highPartEnd l) := by
  have state : (t.gen l).state = .idle := by rw [idle]; rfl
  exact ⟨fun busy => absurd state busy, fun busy => absurd state busy⟩

/-- A generator that begins a period now has nothing due now. -/
theorem notDue_of_newPeriod {t : State} {l : Fin 16} {g : Generator} (begins : t.gen l = g.newPeriod t.count) (job : g.current.inRange) :
    NotDue t (.periodEnd l) ∧ NotDue t (.highPartEnd l) := by
  refine ⟨fun _ => ?_, fun _ positive _ now => ?_⟩
  · rw [begins]; exact Generator.not_end_newPeriod t.count job
  · rw [begins] at positive now
    exact absurd now (not_high_end_now positive)

theorem restsAt_of_notDue {s t : State} {l : Fin 16} (h : NotDue t (.periodEnd l) ∧ NotDue t (.highPartEnd l)) : RestsAt s t l :=
  ⟨fun _ => h.1, fun _ => h.2⟩

/-- A generator that keeps its period, on a line whose level did not rise, has nothing newly due. -/
theorem restsAt_of_same {s t : State} {l : Fin 16} (count : t.count = s.count) (state : (t.gen l).state ≠ .idle → (s.gen l).state ≠ .idle)
    (current : (t.gen l).current = (s.gen l).current) (start : (t.gen l).periodStart = (s.gen l).periodStart)
    (length : (t.gen l).periodLength = (s.gen l).periodLength) (level : (t.line l).level = .high → (s.line l).level = .high) :
    RestsAt s t l := by
  unfold RestsAt NotDue
  simp only [count, current, start, length]
  exact ⟨fun h busy => h (state busy), fun h busy high short now => mt level (h (state busy) high short now)⟩

/-- An update of one line and its generator. -/
theorem Settled.of_line {done : TickEvent → Prop} {s t : State} (h : Settled done s) (fields : FieldsOk t)
    (frame : t = { s with lines := t.lines, gens := t.gens }) (l : Fin 16)
    (others : ∀ l', l' ≠ l → t.line l' = s.line l' ∧ t.gen l' = s.gen l') (here : RestsAt s t l) : Settled done t := by
  refine ⟨fields, fun e d => ?_⟩
  have before := h.2 e d
  have rests (l' : Fin 16) : RestsAt s t l' := by
    by_cases e : l' = l
    · subst e; exact here
    · obtain ⟨line, gen⟩ := others l' e
      refine restsAt_of_same (by rw [frame]) (by rw [gen]; exact id) (by rw [gen]) (by rw [gen]) (by rw [gen]) (by rw [line]; exact id)
  cases e with
  | dispatch => rw [frame]; exact before
  | deadlines => rw [frame]; exact before
  | lapse m => rw [frame]; exact before
  | periodEnd l' => exact (rests l').1 before
  | highPartEnd l' => exact (rests l').2 before
  | edge i => rw [frame]; exact before
  | trip => rw [frame]; exact before

theorem others_setGen_setLine (s : State) (l : Fin 16) (g : Generator) (r : LineRecord) :
    ∀ l', l' ≠ l → ((s.setGen l g).setLine l r).line l' = s.line l' ∧ ((s.setGen l g).setLine l r).gen l' = s.gen l' :=
  fun _ ne => ⟨(s.setGen l g).line_setLine_ne r ne, s.gen_setGen_ne g ne⟩

theorem gen_setGen_setLine (s : State) (l : Fin 16) (g : Generator) (r : LineRecord) : ((s.setGen l g).setLine l r).gen l = g := by
  rw [State.gen_setLine, State.gen_setGen_self]

/-- The job a running generator goes on with, or loads, is in its ranges. -/
theorem job_of_source {s : State} (fields : FieldsOk s) {l : Fin 16} {j : TrainJob} (running : (s.gen l).state = .running)
    (source : j = (s.gen l).current ∨ (s.gen l).staged = some j) : j.inRange := by
  have here : (s.gen l).inRange := ((fieldsOk_iff s).mp fields).2.1 l
  rcases source with current | staged
  · have busy := here.1 (by rw [running]; decide)
    rw [current]; exact ⟨busy.1, busy.2.1⟩
  · exact here.2 j staged

theorem Settled.rest {done : TickEvent → Prop} {s : State} (h : Settled done s) (l : Fin 16) (v : Level) : Settled done (s.rest l v) :=
  h.of_line (h.1.of_parts id (fun g => GensOk.setGen g l Generator.inRange_idle) id) rfl l (others_setGen_setLine _ _ _ _)
    (restsAt_of_notDue (notDue_of_idle (gen_setGen_setLine _ _ _ _)))

theorem Settled.beginPeriod {done : TickEvent → Prop} {s : State} (h : Settled done s) (l : Fin 16) {g : Generator}
    (fields : FieldsOk (s.beginPeriod l g)) (job : g.current.inRange) : Settled done (s.beginPeriod l g) :=
  h.of_line fields rfl l (others_setGen_setLine _ _ _ _) (restsAt_of_notDue (notDue_of_newPeriod (g := g) (gen_setGen_setLine _ _ _ _) job))

/-- A generator that keeps its period while its state and its staged job move. -/
theorem Settled.stage {done : TickEvent → Prop} {s : State} (h : Settled done s) (l : Fin 16) {x : GenState} {staged : Option TrainJob}
    (busy : (s.gen l).state ≠ .idle) (fields : FieldsOk (s.setGen l { s.gen l with state := x, staged := staged })) :
    Settled done (s.setGen l { s.gen l with state := x, staged := staged }) := by
  refine h.of_line fields rfl l (fun _ ne => ⟨rfl, s.gen_setGen_ne _ ne⟩) (restsAt_of_same rfl (fun _ => busy) ?_ ?_ ?_ id)
  all_goals rw [State.gen_setGen_self]

theorem Settled.applyAction {done : TickEvent → Prop} {s : State} (h : Settled done s) (l : Fin 16) (a : Action) (tk : Ticket)
    (fields : FieldsOk (s.applyAction l a tk)) (range : a.inRange) (issued : tk ≠ 0) : Settled done (s.applyAction l a tk) := by
  cases a with
  | driveLow => exact h.rest l .low
  | driveHigh => exact h.rest l .high
  | toggle => exact h.rest l _
  | train r =>
    simp only [State.applyAction, State.trainAction] at fields ⊢
    split at fields
    · exact h.beginPeriod l fields ⟨range, issued⟩
    · next running => exact h.stage (x := (s.gen l).state) l (by rw [running]; decide) fields
    · next stopping => exact h.stage l (by rw [stopping]; decide) fields
  | trainStop =>
    simp only [State.applyAction, State.trainStop] at fields ⊢
    split at fields
    · next running => exact h.stage l (by rw [running]; decide) fields
    · exact h
    · exact h

/-- An update of one input record that leaves no accepted edge outstanding there, unless it was before. -/
theorem Settled.setInput {done : TickEvent → Prop} {s : State} (h : Settled done s) (i : Fin 8) {r : InputRecord}
    (here : ∀ since, r.filter = .candidate since true → (s.input i).filter = .candidate since true) : Settled done (s.setInput i r) := by
  refine ⟨h.1, fun e d => ?_⟩
  have before := h.2 e d
  cases e with
  | dispatch => exact before
  | deadlines => exact before
  | lapse m => exact before
  | periodEnd l => exact before
  | highPartEnd l => exact before
  | edge j =>
    intro since
    rw [State.input_setInput]
    split
    · next e => subst e; exact mt (here since) (before since)
    · exact before since
  | trip => exact before

theorem keptSettled (done : TickEvent → Prop) : KeptByEvents (Settled done) where
  notice s m n active h := ⟨h.1, fun e d => by have := h.2 e d; cases e <;> exact this⟩
  drop s f g h := by
    refine ⟨keptFields.drop s f g h.1, fun e d => ?_⟩
    have before := h.2 e d
    cases e with
    | dispatch => exact fun x mem => before x (List.mem_of_mem_filter mem)
    | deadlines => exact fun x mem => before x (List.mem_of_mem_filter mem)
    | lapse m => exact before
    | periodEnd l => exact before
    | highPartEnd l => exact before
    | edge i => exact before
    | trip => exact before
  rest s l v busy h := h.rest l v
  begins s l j n running source h :=
    h.beginPeriod l (keptFields.begins s l j n running source h.1) (job_of_source h.1 running source)
  falls s l busy h := h.of_line h.1 rfl l (fun _ ne => ⟨s.line_setLine_ne _ ne, rfl⟩)
    (restsAt_of_same rfl id rfl rfl rfl (by rw [State.line_setLine_self]; nofun))
  withdraw s m l h := by
    refine h.of_line h.1 rfl l (fun _ ne => ⟨s.line_setLine_ne _ ne, rfl⟩) (restsAt_of_same rfl id rfl rfl rfl ?_)
    rw [State.withdrawWait, State.line_setLine_self]; exact id
  returned s l m owned timed armed h :=
    h.of_line (keptFields.returned s l m owned timed armed h.1) rfl l (others_setGen_setLine _ _ _ _) (restsAt_of_notDue (notDue_of_idle (gen_setGen_setLine _ _ _ _)))
  forget s m h := ⟨keptFields.forget s m h.1, fun e d => by have := h.2 e d; cases e <;> exact this⟩
  empty s m h := ⟨h.1, fun e d => by have := h.2 e d; cases e <;> exact this⟩
  leave s m x may h := by
    refine ⟨h.1, fun e d => ?_⟩
    have before := h.2 e d
    cases e with
    | dispatch => exact before
    | deadlines => exact before
    | lapse y =>
      intro period
      rw [State.session_setSession]
      split
      · intro x_active; rw [x_active] at may; exact absurd may.inactive (by simp [Session.isActive])
      · exact before period
    | periodEnd l => exact before
    | highPartEnd l => exact before
    | edge i => exact before
    | trip => exact before
  accept s i since _ h := h.setInput i nofun
  number s i n h := h.setInput i fun _ => id
  record s m r active h := ⟨keptFields.record s m r active h.1, fun e d => by have := h.2 e d; cases e <;> exact this⟩
  trips s lines gens rested h := by
    refine ⟨keptFields.trips s lines gens rested h.1, fun e d => ?_⟩
    have before := h.2 e d
    have rests (l : Fin 16) : RestsAt s { s.markTripped with lines := lines, gens := gens } l :=
      restsAt_of_notDue (notDue_of_idle (rested l).2)
    cases e with
    | dispatch => exact before
    | deadlines => exact before
    | lapse m => exact before
    | periodEnd l => exact (rests l).1 before
    | highPartEnd l => exact (rests l).2 before
    | edge i => exact before
    | trip => exact fun _ => nofun
  tripSample s n v h := ⟨h.1, fun e d => by have := h.2 e d; cases e <;> exact this⟩
  tripTaken s h := by
    refine ⟨h.1, fun e d => ?_⟩
    have before := h.2 e d
    cases e with
    | trip => exact nofun
    | _ => exact before

theorem keptSettled_executions (done : TickEvent → Prop) : KeptByExecutions (Settled done) (fun _ e => e.inRange) where
  entries s h := keptFields_posts.entries s h.1
  steady _ q := q
  again part after q := keptFields_posts.again (s := State.reset) part after q
  insert s e q due below h := by
    refine ⟨keptFields_posts.insert s e q due below h.1, fun x d => ?_⟩
    have before := h.2 x d
    cases x with
    | dispatch =>
      intro y mem
      rcases (mem_insertByDue _ _ _ _).mp mem with same | old
      · rw [same]; exact due q
      · exact before y old
    | _ => exact before
  action s e q owned normal h :=
    h.applyAction e.line e.action e.ticket (keptFields_posts.action s e q owned normal h.1) q.2.1 q.1

/-! ### An event that is taken -/

theorem notDue_of_lapseDue {s : State} {m : Master} (h : s.lapseDue m = false) : NotDue s (.lapse m) := by
  intro period active
  simp [State.lapseDue, active] at h

theorem notDue_of_periodEndDue {s : State} {l : Fin 16} (h : s.periodEndDue l = false) : NotDue s (.periodEnd l) := by
  intro busy now
  simp only [State.periodEndDue, Bool.and_eq_false_iff, decide_eq_false_iff_not] at h
  exact h.elim (absurd busy) (absurd now.symm)

theorem session_lapse (s : State) (m : Master) (period : Word) : (s.lapse m).session m ≠ .active period (s.lapse m).count := by
  unfold State.lapse
  split
  · rw [State.lapseNow_eq, State.session_setSession_self]; nofun
  · next quiet => exact notDue_of_lapseDue (by simpa using quiet) period

theorem gen_endTrain (s : State) (l : Fin 16) (c : TrainEndCause) : (s.endTrain l c).gen l = Generator.idle := by
  have rested (v : Level) : (s.rest l v).gen l = Generator.idle := by rw [State.gen_rest, if_pos rfl]
  unfold State.endTrain
  simp only
  split
  · unfold State.notifyOwner
    split
    · exact rested _
    · rw [State.gen_notify]; exact rested _
  · exact rested _

/-- After the period end of a line its generator is IDLE or begins a period now. -/
theorem notDue_periodEnd {s : State} (fields : FieldsOk s) (l : Fin 16) : NotDue (s.periodEnd l) (.periodEnd l) := by
  unfold State.periodEnd
  split
  · split
    · exact (notDue_of_idle (gen_endTrain s l .stopped)).1
    · next running =>
      have begins {j : TrainJob} (n : BitVec 16) (source : j = (s.gen l).current ∨ (s.gen l).staged = some j) :
          NotDue (s.beginPeriod l { s.gen l with current := j, staged := none, remaining := n }) (.periodEnd l) :=
        (notDue_of_newPeriod (gen_setGen_setLine _ _ _ _) (job_of_source fields running source)).1
      unfold State.runningPeriodEnd
      split
      · next j staged => exact begins _ (.inr staged)
      · next staged =>
        have again (n : BitVec 16) := begins n (.inl rfl)
        rw [← staged] at again
        split
        · exact again (s.gen l).remaining
        · split
          · exact (notDue_of_idle (gen_endTrain s l .count)).1
          · exact again ((s.gen l).remaining - 1)
    · next idle => exact fun busy => absurd idle busy
  · next quiet => exact notDue_of_periodEndDue (by simpa using quiet)

theorem notDue_highPartEnd (s : State) (l : Fin 16) : NotDue (s.highPartEnd l) (.highPartEnd l) := by
  unfold State.highPartEnd
  split
  · intro _ _ _ _
    rw [State.line_setLine_self]; nofun
  · next quiet =>
    intro busy high short now level
    apply quiet
    have positive : (s.gen l).current.record.highTime ≠ 0 := by intro zero; rw [zero] at high; exact absurd high (by decide)
    simp only [State.highPartEndDue, Bool.and_eq_true, decide_eq_true_eq]
    exact ⟨⟨⟨⟨busy, positive⟩, short⟩, now.symm⟩, level⟩

/-- An event that is taken is not due any more at its tick. -/
theorem notDue_takeEvent {s : State} (fields : FieldsOk s) (e : TickEvent) : NotDue (s.takeEvent e) e := by
  have k := keptSettled (· = e)
  have x := keptSettled_executions (· = e)
  suffices Settled (· = e) (s.takeEvent e) from this.2 e rfl
  have settled {t : State} (ft : FieldsOk t) (d : NotDue t e) : Settled (· = e) t := ⟨ft, fun _ h => h ▸ d⟩
  cases e with
  | dispatch =>
    have all : s.armed.filter (fun _ => true) = s.armed := List.filter_true s.armed
    have dropped := keptFields.drop s (fun e => !(e.due = s.count)) (fun _ => true) fields
    rw [all] at dropped
    refine x.executeEntries k _ _ (fun e due => fields.1 e (List.mem_of_mem_filter due)) (settled dropped fun e mem => ?_)
    simpa using (List.mem_filter.mp mem).2
  | deadlines =>
    have all : s.timed.filter (fun _ => true) = s.timed := List.filter_true s.timed
    have dropped := keptFields.drop s (fun _ => true) (fun e => !(e.deadline = some s.count)) fields
    rw [all] at dropped
    refine List.foldlRecOn (motive := Settled (· = .deadlines)) _ _ (settled dropped fun e mem => ?_) fun u hu e _ => k.notify u _ _ hu
    simpa using (List.mem_filter.mp mem).2
  | lapse m => exact settled (keptFields.lapse s m fields) (session_lapse s m)
  | periodEnd l => exact settled (keptFields.periodEnd s l fields) (notDue_periodEnd fields l)
  | highPartEnd l => exact settled (keptFields.highPartEnd s l fields) (notDue_highPartEnd s l)
  | edge i =>
    show Settled (· = .edge i) (s.takeEdge i)
    unfold State.takeEdge
    split
    · next since outstanding =>
      have accepted : Settled (· = .edge i) (s.setInput i { s.input i with filtered := opposite (s.input i).filtered, filter := .stable }) :=
        settled (keptFields.accept s i since outstanding fields) (by
          intro e; rw [State.input_setInput_self]; nofun)
      unfold State.acceptEdge
      simp only
      split
      · exact x.offer k _ _ _ _ (k.deliver _ _ (k.number _ i _ accepted))
      · exact accepted
    · next none => exact settled fields fun e h => by rw [none] at h; cases h
    · next none => exact settled fields fun e h => by rw [none] at h; cases h
  | trip =>
    show Settled (· = .trip) s.takeTripSample
    unfold State.takeTripSample
    split
    · exact k.sampleTrip _ (settled fields nofun)
    · next taken => exact settled fields fun due => absurd due taken

/-! ### Settling -/

/-- Taking events leaves none of them due, and none that was not due before. -/
theorem settled_events {done : TickEvent → Prop} {s : State} (h : Settled done s) (es : List TickEvent) :
    Settled (fun e => e ∈ es ∨ done e) (es.foldl (fun s e => s.takeEvent e) s) := by
  induction es generalizing s done with
  | nil => exact ⟨h.1, fun e d => h.2 e (d.resolve_left List.not_mem_nil)⟩
  | cons e es ih =>
    have kept : Settled done (s.takeEvent e) := (keptSettled_executions done).takeEvent (keptSettled done) s e h
    have taken : Settled (fun x => x = e ∨ done x) (s.takeEvent e) :=
      ⟨kept.1, fun x d => d.elim (fun same => same ▸ notDue_takeEvent h.1 e) (kept.2 x)⟩
    refine ⟨(ih taken).1, fun x d => (ih taken).2 x ?_⟩
    rcases d with mem | d
    · exact (List.mem_cons.mp mem).elim (fun same => .inr (.inl same)) .inl
    · exact .inr (.inr d)

theorem keptInputSampled : KeptByEvents (fun s => s.inputSampleDue = false) where

theorem keptTripSampled : KeptByEvents (fun s => s.tripSampleDue = false) where
  tripTaken _ _ := rfl

theorem keptInputSampled_executions : KeptByExecutions (fun s => s.inputSampleDue = false) (fun _ _ => True) where
  entries _ _ := ⟨fun _ _ => trivial, fun _ _ => trivial⟩
  steady _ _ := trivial
  again _ _ _ := trivial
  insert _ _ _ _ _ h := h
  action s e _ _ _ h := by rw [s.applyAction_frame e.line e.action e.ticket]; exact h

theorem keptTripSampled_executions : KeptByExecutions (fun s => s.tripSampleDue = false) (fun _ _ => True) where
  entries _ _ := ⟨fun _ _ => trivial, fun _ _ => trivial⟩
  steady _ _ := trivial
  again _ _ _ := trivial
  insert _ _ _ _ _ h := h
  action s e _ _ _ h := by rw [s.applyAction_frame e.line e.action e.ticket]; exact h

theorem tripSampleDue_takeTripSample (s : State) : s.takeTripSample.tripSampleDue = false := by
  unfold State.takeTripSample
  split
  · exact keptTripSampled.sampleTrip _ rfl
  · next taken => simpa using taken

/-- Events keep a sample of TRIP_N that is taken, and the event of the trip takes it. -/
theorem tripSampleDue_events {s : State} {es : List TickEvent} (h : .trip ∈ es ∨ s.tripSampleDue = false) :
    (es.foldl (fun s e => s.takeEvent e) s).tripSampleDue = false := by
  induction es generalizing s with
  | nil => exact h.resolve_left List.not_mem_nil
  | cons e es ih =>
    refine ih ?_
    rcases h with mem | taken
    · rcases List.mem_cons.mp mem with same | later
      · exact .inr (same ▸ tripSampleDue_takeTripSample s)
      · exact .inl later
    · exact .inr (keptTripSampled_executions.takeEvent keptTripSampled s e taken)

theorem inputSampleDue_takeSamples (s : State) : s.takeSamples.inputSampleDue = false := by
  have taken : s.takeInputSample.inputSampleDue = false := by rw [s.takeInputSample_frame]
  unfold State.takeSamples
  simp only
  split
  · exact taken
  · exact keptInputSampled.takeTripSample _ taken

/-- The sample of TRIP_N is taken with the other samples, or it trips the part and is an event of its own. -/
theorem tripSampleDue_takeSamples (s : State) : .trip ∈ s.takeSamples.dueEvents ∨ s.takeSamples.tripSampleDue = false := by
  unfold State.takeSamples
  simp only
  split
  · next due => exact .inl (by simp [State.dueEvents, due])
  · exact .inr (tripSampleDue_takeTripSample _)

/-- When the samples and the events due are taken, nothing is left of the tick, whatever the order of the events. -/
theorem quiet_settle {s : State} (fields : FieldsOk s) : Quiet s.settle := by
  have samples := keptFields.takeSamples s fields
  have input := inputSampleDue_takeSamples s
  have trip := tripSampleDue_takeSamples s
  unfold State.settle
  simp only
  generalize s.takeSamples = u at samples input trip
  have perm := perm_freeOrder u.draws u.dueEvents
  generalize freeOrder u.draws u.dueEvents = es at perm
  refine ⟨?_, ?_, ?_⟩
  · have start : ({ u with draws := drawsAfter u.draws u.dueEvents } : State).inputSampleDue = false := input
    exact List.foldlRecOn (motive := fun s => s.inputSampleDue = false) _ _ start fun s hs e _ =>
      keptInputSampled_executions.takeEvent keptInputSampled s e hs
  · exact tripSampleDue_events (trip.imp perm.mem_iff.mpr id)
  · have start : Settled (NotDue u) { u with draws := drawsAfter u.draws u.dueEvents } := ⟨samples, fun e d => by cases e <;> exact d⟩
    have done := settled_events start es
    refine List.eq_nil_iff_forall_not_mem.mpr fun e due => ?_
    refine (notDue_iff _ e).mp (done.2 e ?_) ((mem_dueEvents _ e).mp due)
    by_cases was : e ∈ u.dueEvents
    · exact .inl (perm.mem_iff.mpr was)
    · exact .inr ((notDue_iff u e).mpr (mt (mem_dueEvents u e).mpr was))

end Sys2Proof.Machine
end

section

open Sys2Proof Sys2Proof.Machine

/-- Settles O5: an event that is taken is no longer due and makes no other due; the order drawn holds each event due once, by its own row. -/
theorem nothingDueIsHeldOver : Obligations.NothingDueIsHeldOver := by
  refine ⟨fun s fields => ⟨quiet_settle fields, not_dueRow_of_quiet (quiet_settle fields)⟩, fun s high => ?_⟩
  have pins : s.takeSamples.pins = s.pins := pins_of_maskTick s.maskTick_takeSamples
  have samples := runsTo_samples high
  have perm := perm_freeOrder s.takeSamples.draws s.takeSamples.dueEvents
  have settled : s.settle = (freeOrder s.takeSamples.draws s.takeSamples.dueEvents).foldl (fun s e => s.takeEvent e)
      { s.takeSamples with draws := s.settle.draws } := by rw [State.draws_settle]; rfl
  refine ⟨s.takeSamples, (freeOrder s.takeSamples.draws s.takeSamples.dueEvents).map eventRow, samples, ?_, fun i => ?_, ?_⟩
  · exact (perm.nodup_iff.mpr (nodup_dueEvents _)).map eventRow_injective
  · rw [List.mem_map]
    constructor
    · rintro ⟨e, mem, rfl⟩
      exact (mem_dueEvents _ e).mp (perm.mem_iff.mp mem)
    · intro due
      obtain ⟨e, rfl⟩ := exists_event_of_dueRow due
      exact ⟨e, perm.mem_iff.mpr ((mem_dueEvents _ e).mpr due), rfl⟩
  · have run := runsTo_events (s := { s.takeSamples with draws := s.settle.draws }) (pins ▸ high)
      (freeOrder s.takeSamples.draws s.takeSamples.dueEvents) fun mem => ?_
    · rwa [← settled] at run
    · have due : DueRow s.takeSamples .trip := (mem_dueEvents _ .trip).mp (perm.mem_iff.mp mem)
      exact due.2.2

end

section
/-! PROOFS. No time is passed over: what every step keeps of the due times, the deadlines, the leases and the periods (R4, R17, R46, R130). -/

namespace Sys2Proof.Machine

/-! ### The calendar's order -/

/-- The calendar stands in ascending distance from the count `c`. -/
def Ascending (c : Word) (l : List TimedEntry) : Prop := l.Pairwise fun x y => distance c x.due ≤ distance c y.due

/-- An entry takes its place after every entry not farther than it and before every entry farther (R17). -/
theorem insertByDue_split {c : Word} (e : TimedEntry) {l : List TimedEntry} (ascending : Ascending c l) :
    ∃ before after, l = before ++ after ∧ insertByDue c e l = before ++ e :: after ∧
      (∀ x ∈ before, distance c x.due ≤ distance c e.due) ∧ ∀ x ∈ after, distance c e.due < distance c x.due := by
  induction l with
  | nil => exact ⟨[], [], rfl, rfl, by simp, by simp⟩
  | cons y ys ih =>
    obtain ⟨first, rest⟩ := List.pairwise_cons.mp ascending
    by_cases nearer : distance c e.due < distance c y.due
    · refine ⟨[], y :: ys, rfl, by simp [insertByDue, nearer], by simp, fun x mem => ?_⟩
      rcases List.mem_cons.mp mem with same | later
      · rw [same]; exact nearer
      · exact lt_of_lt_of_le nearer (first x later)
    · obtain ⟨before, after, split, inserted, low, high⟩ := ih rest
      refine ⟨y :: before, after, by rw [split]; rfl, by simp [insertByDue, nearer, inserted], fun x mem => ?_, high⟩
      rcases List.mem_cons.mp mem with same | earlier
      · rw [same]; exact Nat.not_lt.mp nearer
      · exact low x earlier

theorem ascending_insertByDue {c : Word} (e : TimedEntry) {l : List TimedEntry} (ascending : Ascending c l) :
    Ascending c (insertByDue c e l) := by
  obtain ⟨before, after, split, inserted, low, high⟩ := insertByDue_split e ascending
  rw [split] at ascending
  obtain ⟨first, second, across⟩ := List.pairwise_append.mp ascending
  rw [inserted]
  refine List.pairwise_append.mpr ⟨first, List.pairwise_cons.mpr ⟨fun x mem => Nat.le_of_lt (high x mem), second⟩, fun x mem y mem' => ?_⟩
  rcases List.mem_cons.mp mem' with same | later
  · rw [same]; exact low x mem
  · exact across x mem y later

/-! ### The parts of the condition -/

/-- The due times of the calendar are ahead or now, in ascending distance. -/
def TimedAhead (s : State) : Prop := Ascending s.count s.timed ∧ ∀ e ∈ s.timed, distance s.count e.due < 2147483648

/-- The deadlines of the armed list are ahead or now. -/
def DeadlinesAhead (s : State) : Prop := ∀ e ∈ s.armed, ∀ d, e.deadline = some d → distance s.count d < 2147483648

/-- A lease is of 100 to 120,000,000 ticks, its deadline at most the period away. -/
def LeaseAhead (c : Word) (x : Session) : Prop :=
  ∀ period deadline, x = .active period deadline → 100 ≤ period.toNat ∧ period.toNat ≤ 120000000 ∧ distance c deadline ≤ period.toNat

/-- The period of a generator is not past its end. -/
def PeriodAhead (c : Word) (g : Generator) : Prop := g.state ≠ .idle → distance g.periodStart c ≤ g.periodLength

theorem timesOk_iff (s : State) :
    TimesOk s ↔ TimedAhead s ∧ DeadlinesAhead s ∧ (∀ m, LeaseAhead s.count (s.session m)) ∧ ∀ l, PeriodAhead s.count (s.gen l) :=
  ⟨fun ⟨order, timed, armed, leases, gens⟩ => ⟨⟨order, timed⟩, armed, fun m p d => leases m p d, gens⟩,
    fun ⟨⟨order, timed⟩, armed, leases, gens⟩ => ⟨order, timed, armed, fun m p d => leases m p d, gens⟩⟩

theorem TimesOk.of_parts {s t : State} (h : TimesOk s) (timed : TimedAhead s → TimedAhead t) (armed : DeadlinesAhead s → DeadlinesAhead t)
    (leases : (∀ m, LeaseAhead s.count (s.session m)) → ∀ m, LeaseAhead t.count (t.session m))
    (gens : (∀ l, PeriodAhead s.count (s.gen l)) → ∀ l, PeriodAhead t.count (t.gen l)) : TimesOk t := by
  obtain ⟨a, b, c, d⟩ := (timesOk_iff s).mp h
  exact (timesOk_iff t).mpr ⟨timed a, armed b, leases c, gens d⟩

theorem periodAhead_idle (c : Word) : PeriodAhead c Generator.idle := fun busy => absurd rfl busy

theorem periodAhead_newPeriod (c : Word) (g : Generator) : PeriodAhead c (g.newPeriod c) := fun _ => by
  have start : distance (g.newPeriod c).periodStart c = 0 := distance_self c
  omega

theorem periodAhead_setGen {s : State} (h : ∀ l, PeriodAhead s.count (s.gen l)) (l : Fin 16) {g : Generator} (here : PeriodAhead s.count g)
    (l' : Fin 16) : PeriodAhead s.count ((s.setGen l g).gen l') := by
  rw [State.gen_setGen]
  split
  · exact here
  · exact h l'

/-- A generator that is not IDLE keeps its period when its state or its staged job moves. -/
theorem PeriodAhead.stage {c : Word} {g : Generator} (h : PeriodAhead c g) (busy : g.state ≠ .idle) (x : GenState) (staged : Option TrainJob) :
    PeriodAhead c { g with state := x, staged := staged } := fun _ => h busy

theorem periodAhead_applyAction {s : State} (h : ∀ l, PeriodAhead s.count (s.gen l)) (l : Fin 16) (a : Action) (tk : Ticket) (l' : Fin 16) :
    PeriodAhead s.count ((s.applyAction l a tk).gen l') := by
  cases a with
  | driveLow => exact periodAhead_setGen h l (periodAhead_idle _) l'
  | driveHigh => exact periodAhead_setGen h l (periodAhead_idle _) l'
  | toggle => exact periodAhead_setGen h l (periodAhead_idle _) l'
  | train r =>
    simp only [State.applyAction, State.trainAction]
    split
    · exact periodAhead_setGen h l (periodAhead_newPeriod _ _) l'
    · next running => exact periodAhead_setGen h l ((h l).stage (by rw [running]; decide) (s.gen l).state _) l'
    · next stopping => exact periodAhead_setGen h l ((h l).stage (by rw [stopping]; decide) .running _) l'
  | trainStop =>
    simp only [State.applyAction, State.trainStop]
    split
    · next running => exact periodAhead_setGen h l ((h l).stage (by rw [running]; decide) .stopping _) l'
    · exact h l'
    · exact h l'

theorem leaseAhead_setSession {s : State} (h : ∀ m, LeaseAhead s.count (s.session m)) (m : Master) {x : Session} (here : LeaseAhead s.count x)
    (m' : Master) : LeaseAhead s.count ((s.setSession m x).session m') := by
  rw [State.session_setSession]
  split
  · exact here
  · exact h m'

theorem leaseAhead_of_inactive {c : Word} {x : Session} (inactive : x.isActive = false) : LeaseAhead c x := by
  rintro period deadline rfl
  cases inactive

theorem timesOk_reset {s : State} (timed : s.timed = []) (armed : s.armed = []) (sessions : s.sessions = PerMaster.all .closed)
    (gens : s.gens = Vector.replicate 16 Generator.idle) : TimesOk s := by
  refine (timesOk_iff s).mpr ⟨?_, ?_, fun m => ?_, fun l => ?_⟩
  · simp [TimedAhead, Ascending, timed]
  · simp [DeadlinesAhead, armed]
  · simp only [State.session, sessions, PerMaster.get_all]
    exact leaseAhead_of_inactive rfl
  · simp only [State.gen, gens, Fin.getElem_fin, Vector.getElem_replicate]
    exact periodAhead_idle _

theorem keptTimes : KeptByCommands TimesOk where
  drop s f g h := h.of_parts
    (fun ⟨order, near⟩ => ⟨order.filter f, fun e mem => near e (List.mem_of_mem_filter mem)⟩)
    (fun near e mem => near e (List.mem_of_mem_filter mem)) id id
  rest s l v _ h := h.of_parts id id id fun g => periodAhead_setGen g l (periodAhead_idle _)
  begins s l j n _ _ h := h.of_parts id id id fun g => periodAhead_setGen g l (periodAhead_newPeriod _ _)
  returned s l m _ _ _ h := h.of_parts id id id fun g => periodAhead_setGen g l (periodAhead_idle _)
  leave s m x may h := h.of_parts id id (fun k => leaseAhead_setSession k m (leaseAhead_of_inactive may.inactive)) id
  trips s lines gens rested h := h.of_parts id id id fun _ l => by
    show PeriodAhead s.count gens[l]
    rw [(rested l).2]; exact periodAhead_idle _
  sample s i h := by unfold State.sampleInput; split <;> exact h
  lease s m period known h := h.of_parts id id (fun k => leaseAhead_setSession k m (by
    rintro _ _ ⟨⟩
    refine and_assoc.mp ⟨?_, le_of_eq (distance_add _ _)⟩
    rcases known with bounds | ⟨d, active⟩
    · exact bounds
    · have lease := k m period d active
      exact ⟨lease.1, lease.2.1⟩)) id
  safe s l v h := by unfold State.putSafe; split <;> exact h
  softReset s inputs reset h := timesOk_reset rfl rfl rfl rfl
  reset st pins a b k q := timesOk_reset rfl rfl rfl rfl

theorem keptTimes_posts : KeptByPosts TimesOk (fun _ _ => True) where
  entries _ _ := ⟨fun _ _ => trivial, fun _ _ => trivial⟩
  steady _ _ := trivial
  again _ _ _ := trivial
  insert s e _ _ below h := h.of_parts (fun ⟨order, near⟩ => by
    refine ⟨ascending_insertByDue e order, fun x mem => ?_⟩
    rcases (mem_insertByDue _ _ _ _).mp mem with same | old
    · rw [same]; exact below
    · exact near x old) id id id
  action s e _ _ _ h := by
    have frame := s.applyAction_frame e.line e.action e.ticket
    have gens := fun g => periodAhead_applyAction (s := s) g e.line e.action e.ticket
    generalize s.applyAction e.line e.action e.ticket = u at frame gens ⊢
    rw [frame] at gens ⊢
    exact h.of_parts id id id gens
  posted _ _ := trivial
  arm s e _ below h := h.of_parts id (fun near x mem => by
    rcases List.mem_append.mp mem with old | new
    · exact near x old
    · rw [List.mem_singleton.mp new]; exact below) id id

/-! ### The tick -/

/-- The tick brings a time that is not now one nearer. -/
theorem distance_tick_of_ne {c t : Word} (ne : t ≠ c) : distance (c + 1) t + 1 = distance c t := by
  have positive : distance c t ≠ 0 := mt distance_eq_zero_iff.mp ne
  rw [distance_tick, if_neg positive]
  omega

/-- The tick moves the count one on from a start that it has not left behind by a whole turn. -/
theorem distance_from_tick {a c : Word} (small : distance a c < 4294967295) : distance a (c + 1) = distance a c + 1 := by
  have start_lt : a.toNat < 4294967296 := a.isLt
  have count_lt : c.toNat < 4294967296 := c.isLt
  have tick : (c + 1).toNat = (c.toNat + 1) % 4294967296 := BitVec.toNat_add c 1
  rw [distance_eq_mod] at small ⊢
  rw [distance_eq_mod, tick]
  omega

theorem eq_add_of_distance {a c : Word} {n : Nat} (h : distance a c = n) : a + BitVec.ofNat 32 n = c := by
  have offset : BitVec.ofNat 32 n = c - a := by rw [← h, distance, BitVec.ofNat_toNat, BitVec.setWidth_eq]
  rw [offset, add_sub_cancel]

/-- With nothing due at the count, the tick passes over no time (R4). -/
theorem timesOk_advance {s : State} (fields : FieldsOk s) (quiet : Quiet s) (h : TimesOk s) : TimesOk s.advance := by
  have still (e : TickEvent) : NotDue s e := (notDue_iff s e).mpr (not_dueRow_of_quiet quiet _)
  refine h.of_parts (fun ⟨order, near⟩ => ⟨?_, fun e mem => ?_⟩) (fun near e mem d deadline => ?_) (fun leases m period deadline active => ?_)
    fun periods l busy => ?_
  · refine List.Pairwise.imp_of_mem (fun {x y} hx hy closer => ?_) order
    have := distance_tick_of_ne (still .dispatch x hx)
    have := distance_tick_of_ne (still .dispatch y hy)
    show distance (s.count + 1) x.due ≤ distance (s.count + 1) y.due
    omega
  · have := near e mem
    have := distance_tick_of_ne (still .dispatch e mem)
    show distance (s.count + 1) e.due < _
    omega
  · have := near e mem d deadline
    have := distance_tick_of_ne (t := d) (c := s.count) fun now => still .deadlines e mem (now ▸ deadline)
    show distance (s.count + 1) d < _
    omega
  · obtain ⟨low, high, close⟩ := leases m period deadline active
    have := distance_tick_of_ne (t := deadline) (c := s.count) fun now => still (.lapse m) period (now ▸ active)
    refine ⟨low, high, ?_⟩
    show distance (s.count + 1) deadline ≤ _
    omega
  · have bounds := Generator.periodLength_bounds (((fieldsOk_iff s).mp fields).2.1 l) busy
    have inside := periods l busy
    have unfinished : distance (s.gen l).periodStart s.count ≠ (s.gen l).periodLength := fun ended =>
      still (.periodEnd l) busy (eq_add_of_distance ended).symm
    show distance (s.gen l).periodStart (s.count + 1) ≤ (s.gen l).periodLength
    rw [distance_from_tick (by omega)]
    omega

end Sys2Proof.Machine
end

section
/-! PROOFS. Tickets and the pool: the allocator finds a free ticket (R15, R16), and what every step keeps of the pool (R12, R15). -/

namespace Sys2Proof.Machine

/-! ### The allocator -/

theorem toNat_ticketAfter {t : Ticket} (issued : t ≠ 0) : (ticketAfter t).toNat = (t.toNat - 1 + 1) % 65535 + 1 := by
  have positive : t.toNat ≠ 0 := fun zero => issued (BitVec.eq_of_toNat_eq zero)
  have bound := t.isLt
  unfold ticketAfter
  split
  · next last => subst last; decide
  · next ne =>
    have notLast : t.toNat ≠ 65535 := fun last => ne (BitVec.eq_of_toNat_eq last)
    have next : (t + 1).toNat = (t.toNat + 1) % 65536 := BitVec.toNat_add t 1
    omega

/-- The values after a ticket run through 1 to 65535 in a circle. -/
theorem toNat_ticketAfter_iterate (t : Ticket) (j : Nat) :
    (ticketAfter^[j + 1] t).toNat = ((ticketAfter t).toNat - 1 + j) % 65535 + 1 := by
  have first : (ticketAfter t).toNat ≠ 0 := fun zero => ticketAfter_ne_zero t (BitVec.eq_of_toNat_eq zero)
  have bound := (ticketAfter t).isLt
  induction j with
  | zero =>
    have below : (ticketAfter t).toNat - 1 < 65535 := by omega
    rw [zero_add, Function.iterate_one]
    omega
  | succ j ih =>
    rw [Function.iterate_succ_apply', toNat_ticketAfter, ih]
    · omega
    · rw [Function.iterate_succ_apply']; exact ticketAfter_ne_zero _

/-- Fewer than 65535 values after a ticket are distinct. -/
theorem nodup_ticketAfter (t : Ticket) {n : Nat} (small : n ≤ 65535) : ((List.range n).map fun j => ticketAfter^[j + 1] t).Nodup := by
  refine List.Nodup.map_on (fun i hi j hj same => ?_) List.nodup_range
  rw [List.mem_range] at hi hj
  have values := congrArg BitVec.toNat same
  rw [toNat_ticketAfter_iterate, toNat_ticketAfter_iterate] at values
  omega

theorem State.ticketHeld_iff (s : State) (t : Ticket) : s.ticketHeld t = true ↔ t ∈ s.tickets := by
  simp [State.ticketHeld, State.tickets]

theorem State.length_tickets (s : State) : s.tickets.length = s.poolUsed := by simp [State.tickets, State.poolUsed]

/-- The search passes over held values alone, and stops at a free one unless it has passed over as many as it may. -/
theorem State.freeTicket_search (s : State) (fuel : Nat) (t : Ticket) :
    ∃ k ≤ fuel, s.freeTicket fuel t = ticketAfter^[k + 1] t ∧ (∀ j < k, ticketAfter^[j + 1] t ∈ s.tickets) ∧
      (k < fuel → s.freeTicket fuel t ∉ s.tickets) := by
  induction fuel generalizing t with
  | zero => exact ⟨0, Nat.le_refl 0, rfl, by simp, by simp⟩
  | succ fuel ih =>
    unfold State.freeTicket
    by_cases held : s.ticketHeld (ticketAfter t) = true
    · rw [if_pos held]
      obtain ⟨k, within, found, passed, free⟩ := ih (ticketAfter t)
      refine ⟨k + 1, Nat.succ_le_succ within, found, fun j below => ?_, fun below => free (Nat.lt_of_succ_lt_succ below)⟩
      cases j with
      | zero => exact (s.ticketHeld_iff _).mp held
      | succ j => exact passed j (Nat.lt_of_succ_lt_succ below)
    · rw [if_neg held]
      exact ⟨0, Nat.zero_le _, rfl, by simp, fun _ => mt (s.ticketHeld_iff _).mpr held⟩

/-- The next ticket is the first value after the last one issued that no entry holds: as many values as there are entries cannot all be held (R15). -/
theorem State.nextTicket_spec {s : State} (room : s.poolUsed ≤ 64) :
    ∃ k, s.nextTicket = ticketAfter^[k + 1] s.lastTicket ∧ s.nextTicket ∉ s.tickets ∧ ∀ j < k, ticketAfter^[j + 1] s.lastTicket ∈ s.tickets := by
  obtain ⟨k, within, found, passed, free⟩ := s.freeTicket_search s.poolUsed s.lastTicket
  refine ⟨k, found, fun held => ?_, passed⟩
  have exhausted : k = s.poolUsed := by
    by_contra ne
    exact free (by omega) held
  have allHeld : ((List.range (k + 1)).map fun j => ticketAfter^[j + 1] s.lastTicket) ⊆ s.tickets := by
    intro x mem
    obtain ⟨j, below, rfl⟩ := List.mem_map.mp mem
    rw [List.mem_range] at below
    by_cases last : j = k
    · rw [last, ← found]; exact held
    · exact passed j (by omega)
  have fits := ((nodup_ticketAfter s.lastTicket (by omega)).subperm allHeld).length_le
  rw [List.length_map, List.length_range, s.length_tickets] at fits
  omega

/-! ### The pool -/

/-- The tickets of a pool: at most 64, each once, none 0. -/
def TicketsOk (ts : List Ticket) : Prop := ts.length ≤ 64 ∧ ts.Nodup ∧ (0 : Ticket) ∉ ts

theorem poolOk_iff (s : State) : PoolOk s ↔ TicketsOk s.tickets := by
  unfold PoolOk TicketsOk
  rw [s.length_tickets]

theorem TicketsOk.subperm {ts us : List Ticket} (h : TicketsOk ts) (sub : us.Subperm ts) : TicketsOk us := by
  obtain ⟨length, nodup, zero⟩ := h
  obtain ⟨vs, perm, part⟩ := id sub
  exact ⟨sub.length_le.trans length, perm.nodup_iff.mp (nodup.sublist part), fun mem => zero (sub.subset mem)⟩

theorem TicketsOk.cons {ts : List Ticket} (h : TicketsOk ts) {t : Ticket} (room : ts.length < 64) (fresh : t ∉ ts) (issued : t ≠ 0) :
    TicketsOk (t :: ts) := by
  obtain ⟨-, nodup, zero⟩ := h
  refine ⟨room, List.nodup_cons.mpr ⟨fresh, nodup⟩, fun mem => ?_⟩
  exact (List.mem_cons.mp mem).elim (fun same => issued same.symm) zero

theorem tickets_of_lists {s t : State} (timed : t.timed = s.timed) (armed : t.armed = s.armed) : t.tickets = s.tickets := by
  unfold State.tickets; rw [timed, armed]

@[simp] theorem State.tickets_notify (s : State) (m : Master) (n : Notice) : (s.notify m n).tickets = s.tickets := by
  rw [s.notify_frame m n]; rfl

@[simp] theorem State.tickets_runAction (s : State) (e : EntryCore) : (s.runAction e).tickets = s.tickets := by
  unfold State.runAction
  split
  · rw [s.applyAction_frame e.line e.action e.ticket]; rfl
  · rfl
  · rfl

@[simp] theorem State.tickets_reportLate (s : State) (e : EntryCore) (late : Option Word) : (s.reportLate e late).tickets = s.tickets := by
  cases late <;> simp [State.reportLate]

@[simp] theorem State.tickets_reportExecution (s : State) (e : EntryCore) (x : Execution) : (s.reportExecution e x).tickets = s.tickets := by
  unfold State.reportExecution; split <;> simp

theorem State.tickets_insertTimed (s : State) (e : TimedEntry) : (s.insertTimed e).tickets.Perm (e.core.ticket :: s.tickets) :=
  ((perm_insertByDue s.count e s.timed).map _).append_right _

theorem State.tickets_repeatFrom (s : State) (e : EntryCore) (base : Word) : (s.repeatFrom e base).tickets.Subperm (e.ticket :: s.tickets) := by
  rcases s.repeatFrom_cases e base with same | ⟨r, r', -, -, inserted⟩
  · rw [same]; exact (List.sublist_cons_self _ _).subperm
  · rw [inserted]; exact (s.tickets_insertTimed _).subperm

/-- An execution puts back at most the entry it executes. -/
theorem State.tickets_executeEntry (s : State) (e : EntryCore) (late : Option Word) :
    (s.executeEntry e late).tickets.Subperm (e.ticket :: s.tickets) := by
  unfold State.executeEntry
  split
  · refine (State.tickets_repeatFrom _ e _).trans ?_
    simp only [State.tickets_reportExecution, State.tickets_runAction, State.tickets_reportLate]
    exact List.Subperm.refl _
  · rw [State.tickets_notify]; exact (List.sublist_cons_self _ _).subperm

theorem State.tickets_convert (s : State) (a : ArmedEntry) (e : Word) : (s.convert a e).tickets.Subperm (a.core.ticket :: s.tickets) := by
  unfold State.convert
  simp only
  split
  · exact (s.tickets_insertTimed _).subperm
  · exact s.tickets_executeEntry _ _
  · split
    · exact s.tickets_executeEntry _ _
    · rw [State.tickets_notify]; exact (List.sublist_cons_self _ _).subperm

/-- A run of operations that each put back at most the entry they are given. -/
theorem tickets_foldl {α : Type} {f : State → α → State} {ticket : α → Ticket} (one : ∀ s a, (f s a).tickets.Subperm (ticket a :: s.tickets))
    (as : List α) (s : State) : (as.foldl f s).tickets.Subperm (as.map ticket ++ s.tickets) := by
  induction as generalizing s with
  | nil => exact List.Subperm.refl _
  | cons a as ih =>
    refine (ih (f s a)).trans ?_
    refine ((List.subperm_append_left _).mpr (one s a)).trans (List.Perm.subperm ?_)
    exact List.perm_middle

/-- The entries taken out of a list and those left in it are the entries of the list. -/
theorem perm_map_filter {α : Type} (ticket : α → Ticket) (p : α → Bool) (l : List α) :
    ((l.filter p).map ticket ++ (l.filter fun a => !p a).map ticket).Perm (l.map ticket) := by
  rw [← List.map_append]
  exact (List.filter_append_perm p l).map ticket

theorem State.tickets_dispatch (s : State) : s.dispatch.tickets.Subperm s.tickets := by
  refine (tickets_foldl (fun s (e : TimedEntry) => s.tickets_executeEntry e.core none) _ _).trans (List.Perm.subperm ?_)
  unfold State.tickets
  simp only
  rw [← List.append_assoc]
  exact (perm_map_filter (fun e : TimedEntry => e.core.ticket) _ s.timed).append_right _

theorem State.tickets_offer (s : State) (i : Fin 8) (d : Direction) (e : Word) : (s.offer i d e).tickets.Subperm s.tickets := by
  refine (tickets_foldl (fun s (a : ArmedEntry) => s.tickets_convert a e) _ _).trans (List.Perm.subperm ?_)
  unfold State.tickets
  simp only
  refine (List.perm_append_comm_assoc _ _ _).trans ?_
  exact (perm_map_filter (fun a : ArmedEntry => a.core.ticket) _ s.armed).append_left _

theorem keptPool : KeptByCommands PoolOk where
  drop s f g h := by
    rw [poolOk_iff] at h ⊢
    exact h.subperm (((List.filter_sublist).map _).append ((List.filter_sublist).map _)).subperm
  sample s i h := by unfold State.sampleInput; split <;> exact h
  safe s l v h := by unfold State.putSafe; split <;> exact h
  softReset s inputs reset h := ⟨by simp [State.poolUsed], List.nodup_nil, List.not_mem_nil⟩
  reset st pins a b k q := ⟨by simp [State.afterReset, State.poolUsed], List.nodup_nil, List.not_mem_nil⟩

theorem poolOk_dispatch (s : State) (h : PoolOk s) : PoolOk s.dispatch := by
  rw [poolOk_iff] at h ⊢
  exact h.subperm s.tickets_dispatch

theorem poolOk_offer (s : State) (i : Fin 8) (d : Direction) (e : Word) (h : PoolOk s) : PoolOk (s.offer i d e) := by
  rw [poolOk_iff] at h ⊢
  exact h.subperm (s.tickets_offer i d e)

/-- An entry stays in the pool only where check 6 has counted its slot (R23). -/
theorem poolOk_post (m : Master) (p : List Byte) (s : State) (h : PoolOk s) : PoolOk (post m p s).1 := by
  rcases post_cases m p s with ⟨r, refused⟩ | ⟨passes, accepted⟩
  · rw [refused]; exact h
  · rw [accepted]
    obtain ⟨-, -, fresh, -⟩ := s.nextTicket_spec h.1
    rw [poolOk_iff] at h
    have joined (room : (postFields p).leavesEntry s.count = true) : TicketsOk (s.nextTicket :: s.tickets) :=
      h.cons (by rw [s.length_tickets]; exact passes.room room) fresh s.nextTicket_ne_zero
    have issued : ({ s with lastTicket := s.nextTicket } : State).tickets = s.tickets := rfl
    unfold State.acceptPost State.actPost
    simp only
    rw [poolOk_iff]
    split
    · next arm =>
      refine (joined ?_).subperm (List.Perm.subperm ?_)
      · simp [PostFields.leavesEntry, PostFields.path_eq_arm arm]
      · simp only [State.arm, State.tickets, List.map_append, List.map_singleton, ← List.append_assoc]
        exact List.perm_append_singleton _ _
    · next insert =>
      obtain ⟨trigger, immediate, ahead⟩ := PostFields.path_eq_insert insert
      refine (joined ?_).subperm (State.tickets_insertTimed _ _).subperm
      simp only [PostFields.leavesEntry, PostFields.isTimed, trigger, immediate]
      simpa using .inl ahead
    · rcases State.repeatFrom_cases (({ s with lastTicket := s.nextTicket } : State).runAction ((postFields p).core s.nextTicket m))
        ((postFields p).core s.nextTicket m) s.count with same | ⟨r, r', part, after, inserted⟩
      · rw [same, State.tickets_runAction]; exact h
      · rw [inserted]
        refine (joined ?_).subperm ((State.tickets_insertTimed _ _).trans (List.Perm.of_eq ?_)).subperm
        · obtain ⟨repeats, rfl⟩ := PostFields.repeatPart_core part
          have more : (postFields p).executions ≠ 1 := (RepeatPart.of_afterExecution after).1
          simp only [PostFields.leavesEntry, repeats, Bool.true_and, Bool.or_eq_true]
          exact .inr (decide_eq_true more)
        · rw [State.tickets_runAction]; rfl

end Sys2Proof.Machine
end

section
/-! PROOFS. What every step keeps, assembled from the operations (O54 to O57, O59). -/

namespace Sys2Proof.Machine

/-- Settling leaves nothing due, the fields being in their ranges, so that the tick after it passes no time over. -/
theorem timesOk_advance_settle {s : State} (fields : FieldsOk s) (h : TimesOk s) : TimesOk s.settle.advance :=
  timesOk_advance (keptFields.settle (keptFields_posts.takeEvent keptFields.toKeptByEvents) s fields) (quiet_settle fields)
    (keptTimes.settle (keptTimes_posts.takeEvent keptTimes.toKeptByEvents) s h)

/-- Settles O54: every entry that enters the pool takes a slot that check 6 has counted and a ticket that no entry bears. -/
theorem stepKeepsThePoolWithinItsSlots : Obligations.StepKeepsThePoolWithinItsSlots := fun _ _ h next =>
  keptPool.step_of_uncounted (fun s e => keptPool.toKeptByEvents.takeEvent poolOk_dispatch poolOk_offer s e) poolOk_post
    (fun _ h => h) h next

/-- Settles O55: the fields of an entry are checked by POST and copied from there on. -/
theorem stepKeepsFieldsInRange : Obligations.StepKeepsFieldsInRange := fun _ _ h next =>
  keptFields_posts.step keptFields (fun _ h => h) h next

/-- Settles O56: a line changes hands only when the entries of its owner on it have been removed. -/
theorem stepKeepsPostersOwnersAndWaiters : Obligations.StepKeepsPostersOwnersAndWaiters := fun _ _ next =>
  ⟨fun h => keptPosters_posts.step keptPosters (fun _ h => h) h next, fun h => keptOwners_posts.step keptOwners (fun _ h => h) h next⟩

/-- Settles O57: each operation on a line moves its generator with it. -/
theorem stepKeepsLinesAndGeneratorsInStep : Obligations.StepKeepsLinesAndGeneratorsInStep := fun _ _ h next =>
  keptLines_posts.step keptLines (fun _ h => h) h next

/-- Settles O59: a tick comes only when nothing is left due, and so takes no time from ahead to behind. -/
theorem noTimeIsEverPassedOver : Obligations.NoTimeIsEverPassedOver := fun _ _ fields h next =>
  keptTimes.step (keptTimes_posts.takeEvent keptTimes.toKeptByEvents) (keptTimes_posts.post keptTimes)
    (fun _ popped => timesOk_advance_settle (keptFields.of_maskBus fields rfl) popped) h next

end Sys2Proof.Machine
end

section
/-! PROOFS. What the rows leave of the timebase, the straps, the queue and the ports: the commands look at the ports only to answer, and the bus events
move nothing but their port (O2, O3, O58). -/

namespace Sys2Proof.Machine

/-! ### The commands and the ports -/

/-- The state with all that a command can change blanked, RESET_DEVICE apart: as `maskTick`, and the ticket allocator and the quotas. -/
def State.maskBlocks (s : State) : State := { s.maskTick with lastTicket := 0, quotas := PerMaster.all 0 }

theorem maskBlocks_of_maskTick {s t : State} (h : s.maskTick = t.maskTick) : s.maskBlocks = t.maskBlocks := by
  unfold State.maskBlocks; rw [h]

theorem maskBlocks_of_maskEdge {s t : State} (h : s.maskEdge = t.maskEdge) : s.maskBlocks = t.maskBlocks :=
  maskBlocks_of_maskTick (maskTick_of_maskEdge h)

theorem maskBlocks_of_maskExec {s t : State} (h : s.maskExec = t.maskExec) : s.maskBlocks = t.maskBlocks :=
  maskBlocks_of_maskEdge (maskEdge_of_maskExec h)

theorem ports_of_maskBlocks {s t : State} (h : s.maskBlocks = t.maskBlocks) : s.ports = t.ports :=
  congrArg (a₁ := s.maskBlocks) (a₂ := t.maskBlocks) State.ports h

theorem spiA_of_maskBlocks {s t : State} (h : s.maskBlocks = t.maskBlocks) : s.spiA = t.spiA :=
  congrArg (a₁ := s.maskBlocks) (a₂ := t.maskBlocks) State.spiA h

theorem spiB_of_maskBlocks {s t : State} (h : s.maskBlocks = t.maskBlocks) : s.spiB = t.spiB :=
  congrArg (a₁ := s.maskBlocks) (a₂ := t.maskBlocks) State.spiB h

theorem maskBlocks_post (m : Master) (p : List Byte) (s : State) : (post m p s).1.maskBlocks = s.maskBlocks := by
  rcases post_cases m p s with ⟨r, refused⟩ | ⟨-, accepted⟩
  · rw [refused]
  · rw [accepted]
    unfold State.acceptPost State.actPost
    simp only
    have issued : ({ s with lastTicket := s.nextTicket } : State).maskBlocks = s.maskBlocks := rfl
    split
    · exact issued
    · exact issued
    · exact (maskBlocks_of_maskExec (by simp)).trans issued

theorem maskBlocks_release (m : Master) (p : List Byte) (s : State) : (release m p s).1.maskBlocks = s.maskBlocks := by
  unfold release
  split
  · rfl
  · unfold State.releaseLine
    split
    · have purged : (s.purgeLine m (lineOfByte (byteAt p 0))).maskBlocks = s.maskBlocks := rfl
      exact (maskBlocks_of_maskExec (State.maskExec_returnLine (s.purgeLine m _) _ .released)).trans purged
    · split <;> rfl

theorem maskBlocks_clearTrip (m : Master) (p : List Byte) (s : State) : (clearTrip m p s).1.maskBlocks = s.maskBlocks := by
  unfold clearTrip
  split
  · rfl
  · rfl
  · have cleared : ({ s with trip := { s.trip with state := .normal } } : State).maskBlocks = s.maskBlocks := rfl
    exact (maskBlocks_of_maskExec (State.maskExec_notifyAll _ (tripClearedNotice s m))).trans cleared

/-- No command but RESET_DEVICE changes the timebase, the straps, the ports or the queue; its response comes after it. -/
theorem maskBlocks_meaning {c : Command} (other : c ≠ .resetDevice) (m : Master) (p : List Byte) (s : State) :
    (meaningOf c m p s).1.maskBlocks = s.maskBlocks := by
  cases c with
  | nop => rfl
  | time => rfl
  | status => rfl
  | openSession =>
    show (openSession m p s).1.maskBlocks = _
    unfold openSession State.openLease
    split
    · rfl
    · split <;> rfl
  | renew =>
    show (renew m p s).1.maskBlocks = _
    unfold renew
    split <;> rfl
  | close =>
    have purged := maskBlocks_of_maskEdge (s.maskEdge_purge m .closed)
    show (((s.purge m .closed).setNotices m NoticeQueue.initial).setSession m .closed).maskBlocks = _
    generalize s.purge m .closed = u at purged ⊢
    exact purged
  | claim =>
    show (claim m p s).1.maskBlocks = _
    unfold claim State.claimLine
    split
    · rfl
    · split
      · rfl
      · split
        · rfl
        · split
          · rfl
          · split <;> rfl
  | release => exact maskBlocks_release m p s
  | queryLine =>
    show (queryLine m p s).1.maskBlocks = _
    unfold queryLine
    split <;> rfl
  | post => exact maskBlocks_post m p s
  | cancel =>
    show (cancel m p s).1.maskBlocks = _
    unfold cancel
    split
    · rfl
    · split <;> rfl
  | cancelLine =>
    show (cancelLine m p s).1.maskBlocks = _
    unfold cancelLine
    split <;> rfl
  | queryEntry =>
    show (queryEntry m p s).1.maskBlocks = _
    unfold queryEntry
    split
    · rfl
    · split <;> rfl
  | subscribe =>
    show (subscribe m p s).1.maskBlocks = _
    unfold subscribe
    split <;> rfl
  | readCaptures =>
    show (readCaptures m p s).1.maskBlocks = _
    unfold readCaptures
    split <;> rfl
  | readInputs => rfl
  | readNotices =>
    show (readNotices m p s).1.maskBlocks = _
    unfold readNotices
    split <;> rfl
  | clearTrip => exact maskBlocks_clearTrip m p s
  | setQuota =>
    show (setQuota m p s).1.maskBlocks = _
    unfold setQuota
    split
    · rfl
    · split <;> rfl
  | setSafe =>
    show (setSafe m p s).1.maskBlocks = _
    unfold setSafe State.putSafe
    split
    · rfl
    · simp only; split <;> rfl
  | setInput =>
    show (setInput m p s).1.maskBlocks = _
    unfold setInput
    split <;> rfl
  | resetDevice => exact absurd rfl other

/-! ### The lengths of the payloads (R171) -/

@[simp] theorem CaptureRecord.length_bytes (r : CaptureRecord) : r.bytes.length = 6 := rfl

@[simp] theorem Notice.length_bytes (n : Notice) : n.bytes.length = 9 := rfl

/-- The first `n` of a list of records, of `k` bytes each, take at most n × k bytes. -/
theorem length_records_le {α : Type} {bytes : α → List Byte} {k : Nat} (each : ∀ r, (bytes r).length = k) (n : Nat) (q : List α) :
    ((q.take n).map bytes).flatten.length ≤ n * k := by
  have lengths : ((q.take n).map bytes).map List.length = List.replicate (q.take n).length k := by
    rw [List.map_map]
    exact List.map_eq_replicate_iff.mpr fun r _ => each r
  rw [List.length_flatten, lengths, List.sum_replicate, smul_eq_mul]
  exact Nat.mul_le_mul_right k (by simp)

theorem length_entryDescription (e : PoolEntry) : (entryDescription e).length = 18 := by
  have tail : (entryRepeatBytes (entryCore e)).length = 5 := by unfold entryRepeatBytes; split <;> rfl
  have trigger : (entryTriggerBytes e).length = 4 := by cases e <;> rfl
  simp [entryDescription, tail, trigger, bytes32]

theorem length_claimLine (s : State) (m : Master) (l : Fin 16) (wait : Bool) : (s.claimLine m l wait).2.payload.length = 3 := by
  unfold State.claimLine
  split
  · rfl
  · split
    · rfl
    · split
      · rfl
      · split <;> rfl

/-- A command answers with at most 32 bytes of payload; READ_CAPTURES answers with the most (R123, R171). -/
theorem length_payload_meaning (c : Command) (m : Master) (p : List Byte) (s : State) : (meaningOf c m p s).2.payload.length ≤ 32 := by
  have refused (r : Result) : (Reply.refuse r).payload.length ≤ 32 := Nat.zero_le _
  cases c with
  | nop => exact Nat.zero_le _
  | time => exact (by decide : 5 ≤ 32)
  | status => exact (by decide : 24 ≤ 32)
  | openSession =>
    show (openSession m p s).2.payload.length ≤ 32
    unfold openSession State.openLease
    split
    · exact refused _
    · split <;> exact (by decide : 9 ≤ 32)
  | renew =>
    show (renew m p s).2.payload.length ≤ 32
    unfold renew
    split
    · exact (by decide : 8 ≤ 32)
    · exact refused _
    · exact refused _
  | close => exact (by decide : 2 ≤ 32)
  | claim =>
    show (claim m p s).2.payload.length ≤ 32
    unfold claim
    split
    · exact refused _
    · rw [length_claimLine]; decide
  | release =>
    show (release m p s).2.payload.length ≤ 32
    unfold release State.releaseLine
    split
    · exact refused _
    · split
      · exact (by decide : 2 ≤ 32)
      · split
        · exact (by decide : 2 ≤ 32)
        · exact refused _
  | queryLine =>
    show (queryLine m p s).2.payload.length ≤ 32
    unfold queryLine
    split
    · exact refused _
    · exact (by decide : 15 ≤ 32)
  | post =>
    show (post m p s).2.payload.length ≤ 32
    rcases post_cases m p s with ⟨r, answer⟩ | ⟨-, answer⟩ <;> rw [answer]
    · exact refused r
    · exact (by decide : 5 ≤ 32)
  | cancel =>
    show (cancel m p s).2.payload.length ≤ 32
    unfold cancel
    split
    · exact refused _
    · split
      · exact (by decide : 3 ≤ 32)
      · exact refused _
  | cancelLine =>
    show (cancelLine m p s).2.payload.length ≤ 32
    unfold cancelLine
    split
    · exact refused _
    · exact (by decide : 3 ≤ 32)
  | queryEntry =>
    show (queryEntry m p s).2.payload.length ≤ 32
    unfold queryEntry
    split
    · exact refused _
    · split
      · rw [length_entryDescription]; decide
      · exact refused _
  | subscribe =>
    show (subscribe m p s).2.payload.length ≤ 32
    unfold subscribe
    split
    · exact refused _
    · exact (by decide : 3 ≤ 32)
  | readCaptures =>
    show (readCaptures m p s).2.payload.length ≤ 32
    unfold readCaptures
    split
    · exact refused _
    · next range =>
      simp only [Bool.or_eq_true, decide_eq_true_eq, not_or, BitVec.lt_def, not_lt] at range
      have few : (byteAt p 0).toNat ≤ 5 := range.2
      have records := length_records_le CaptureRecord.length_bytes (byteAt p 0).toNat (s.capture m).queue
      simp only [List.length_append, List.length_cons, List.length_nil]
      omega
  | readInputs => exact (by decide : 2 ≤ 32)
  | readNotices =>
    show (readNotices m p s).2.payload.length ≤ 32
    unfold readNotices
    split
    · exact refused _
    · next range =>
      simp only [Bool.or_eq_true, decide_eq_true_eq, not_or, BitVec.lt_def, not_lt] at range
      have few : (byteAt p 0).toNat ≤ 3 := range.2
      have records := length_records_le Notice.length_bytes (byteAt p 0).toNat (s.noticeQueue m).queue
      simp only [List.length_append, List.length_cons, List.length_nil]
      omega
  | clearTrip =>
    show (clearTrip m p s).2.payload.length ≤ 32
    unfold clearTrip
    split
    · exact (by decide : 6 ≤ 32)
    · exact refused _
    · exact (by decide : 6 ≤ 32)
  | setQuota =>
    show (setQuota m p s).2.payload.length ≤ 32
    unfold setQuota
    split
    · exact refused _
    · split
      · exact refused _
      · exact (by decide : 2 ≤ 32)
  | setSafe =>
    show (setSafe m p s).2.payload.length ≤ 32
    unfold setSafe
    split
    · exact refused _
    · exact (by decide : 3 ≤ 32)
  | setInput =>
    show (setInput m p s).2.payload.length ≤ 32
    unfold setInput
    split
    · exact refused _
    · exact (by decide : 4 ≤ 32)
  | resetDevice => exact Nat.zero_le _

theorem Response.length_bytes (r : Response) : r.bytes.length = r.payload.length + 6 := by
  simp [Response.bytes, Response.body]

end Sys2Proof.Machine
end

section
/-! PROOFS. The rows as the ports see them: a row takes the events of its tick, moves its port and answers. Ticks and resets stand apart (O2, O3, O58). -/

namespace Sys2Proof.Machine

/-! ### What a port may hold -/

/-- The pending response has at most 32 bytes of payload, and at most 38 bytes are fixed to be sent (R171, R173). -/
def PortRecord.fits (q : PortRecord) : Prop :=
  (∀ r, q.response = some r → r.payload.length ≤ 32) ∧ ∀ x, q.sending = some x → x.bytes.length ≤ 38

theorem PortRecord.fits_initial : PortRecord.initial.fits := ⟨by intro _ h; simp [initial] at h, by intro _ h; simp [initial] at h⟩

theorem PortRecord.fits_softReset {q : PortRecord} (h : q.fits) : q.softReset.fits := by
  refine ⟨by intro _ held; simp [softReset] at held, fun x sending => ?_⟩
  obtain ⟨y, here, rfl⟩ := Option.map_eq_some_iff.mp (sending : q.sending.map _ = some x)
  exact h.2 y here

theorem PortRecord.fits_sent {q : PortRecord} (h : q.fits) (n : Nat) : (q.sent n).fits := by
  cases hs : q.sending with
  | none => unfold PortRecord.sent; rw [hs]; exact ⟨h.1, by simp⟩
  | some x =>
    rw [PortRecord.sent_of_sending hs]
    refine ⟨fun r held => ?_, fun y sending => ?_⟩
    · simp only at held
      split at held
      · simp at held
      · exact h.1 r held
    · cases sending; exact h.2 x hs

theorem PortRecord.fits_answer {q : PortRecord} (h : q.fits) {r : Response} (few : r.payload.length ≤ 32) :
    ({ q with response := some r } : PortRecord).fits := ⟨fun _ held => by cases held; exact few, h.2⟩

/-- What a fetch fixes to be sent has 6 bytes more than a payload (R171, R173). -/
theorem length_fetched {s : State} {m : Master} (h : (s.port m).fits) : (s.fetched m).bytes.length ≤ 38 := by
  unfold State.fetched
  split
  · next r held => simp only [Response.length_bytes]; have := h.1 r held; omega
  · rw [Response.length_bytes]; exact (by decide : 6 ≤ 38)

/-! ### The induction -/

/-- The condition `P` is kept by the moves of the ports and does not look at what the other blocks hold. -/
structure KeptByPorts (P : State → Prop) : Prop where
  blocks : ∀ s t : State, t.maskBlocks = s.maskBlocks → P s → P t
  softReset : ∀ s, P s → P s.softReset
  port : ∀ s m q, ((s.port m).fits → q.fits) → P s → P (s.setPort m q) := by intros; assumption
  spi : ∀ s p b, (b.select = .high → b.receive = .idle) → P s → P (s.setSpi p b)
  i2c : ∀ s x, P s → P (s.setI2c x) := by intros; assumption
  stalls : ∀ s n, P s → P { s with stallTimeouts := n } := by intros; assumption
  pins : ∀ s v, P s → P { s with pins := v } := by intros; assumption

namespace KeptByPorts

variable {P : State → Prop} (k : KeptByPorts P)
include k

theorem tick {s t : State} (h : P s) (same : t.maskTick = s.maskTick) : P t := k.blocks s t (maskBlocks_of_maskTick same) h

theorem settle {s : State} (h : P s) : P s.settle := k.tick h s.maskTick_settle

theorem meaning (c : Command) (m : Master) (p : List Byte) {s : State} (h : P s) : P (meaningOf c m p s).1 := by
  by_cases reset : c = .resetDevice
  · rw [reset]; exact k.softReset s h
  · exact k.blocks s _ (maskBlocks_meaning reset m p s) h

theorem respond (m : Master) (tag code : Byte) {r : Reply} (few : r.payload.length ≤ 32) {s : State} (h : P s) : P (s.respond m tag code r) :=
  k.port s m _ (fun fits => PortRecord.fits_answer fits few) h

theorem collide (m : Master) {r : Response} {s : State} (held : (s.port m).response = some r) (h : P s) : P (s.collide m r) :=
  k.port s m _ (fun fits => ⟨fun _ e => by cases e; exact fits.1 r held, fits.2⟩) h

theorem command (m : Master) (tag : Byte) (c : Command) (p : List Byte) {s : State} (h : P s) : P (s.command m tag c p (meaningOf c)) := by
  unfold State.command
  split
  · unfold State.takeCommand
    split
    · exact k.respond m tag _ (Nat.zero_le _) h
    · exact k.respond m tag _ (length_payload_meaning c m p s) (k.meaning c m p h)
  · next r held => exact k.collide m held h

theorem handleFrame (m : Master) (f : FrameClass) {s : State} (h : P s) : P (s.handleFrame m f) := by
  unfold State.handleFrame
  split
  · exact h
  · exact k.port s m _ (fun fits => fits) h
  · unfold State.goodFrame
    split
    · exact k.command m _ _ _ h
    · split
      · exact k.respond m _ _ (Nat.zero_le _) h
      · next r held => exact k.collide m held h
  · have counted : P (s.countCrcError m) := k.port s m _ (fun fits => fits) h
    have same : ((s.countCrcError m).port m).response = (s.port m).response := by simp [State.countCrcError]
    unfold State.badFrame
    simp only
    split
    · exact k.respond m _ _ (Nat.zero_le _) counted
    · next r held => exact k.collide m (same.trans held) counted

theorem sendBytes (m : Master) (n : Nat) {s : State} (h : P s) : P (s.sendBytes m n) := k.port s m _ (fun fits => PortRecord.fits_sent fits n) h

theorem receiveBytes (m : Master) (n : Nat) {s : State} (h : P s) : P (s.receiveBytes m n) := k.port s m _ (fun fits => fits) h

theorem endTransfer (m : Master) {s : State} (h : P s) : P (s.endTransfer m) := k.port s m _ (fun fits => ⟨fits.1, by simp⟩) h

theorem beginTransfer (m : Master) (x : Option Sending) {s : State} (few : (s.port m).fits → ∀ y, x = some y → y.bytes.length ≤ 38)
    (h : P s) : P (s.beginTransfer m x) := k.port s m _ (fun fits => ⟨fits.1, few fits⟩) h

theorem spiStart (p : SpiPort) {s : State} (h : P s) : P (s.spiStart p) := by
  have settled := k.settle h
  unfold State.spiStart
  split
  · split
    · exact k.spi s p _ (by simp) h
    · generalize s.settle = u at settled
      refine k.beginTransfer _ _ (fun fits y e => ?_) (k.spi u p _ (by simp) settled)
      cases e
      exact length_fetched (by cases p <;> exact fits)
  · exact h

theorem spiNoFrame (p : SpiPort) (b : List Byte) {s : State} (h : P s) : P (s.spiNoFrame p b) :=
  k.spi _ p _ (fun _ => rfl) (k.port s _ _ (fun fits => fits) h)

theorem spiEnd (p : SpiPort) (b : List Byte) {s : State} (h : P s) : P (s.spiEnd p b) := by
  unfold State.spiEnd
  split
  · split
    · split
      · exact k.spiNoFrame p b h
      · exact k.spi _ p _ (fun _ => rfl) (k.endTransfer _ (k.handleFrame _ _ (k.sendBytes _ _ (k.receiveBytes _ _ (k.settle h)))))
    · exact k.spiNoFrame p b h
  · exact h

theorem i2cStart (a : BitVec 7) (read : Bool) {s : State} (h : P s) : P (s.i2cStart a read) := by
  unfold State.i2cStart
  split
  · split
    · exact k.i2c _ _ (k.beginTransfer _ _ (fun fits y e => by cases e; exact length_fetched fits) h)
    · exact k.i2c _ _ (k.beginTransfer _ _ (by simp) h)
  · exact k.endTransfer _ (k.i2c _ _ h)

theorem i2cWriteEnd (b : List Byte) {s : State} (h : P s) : P (s.i2cWriteEnd b) := by
  unfold State.i2cWriteEnd
  split
  · exact State.unlessReset_keeps (fun _ => k.i2c _ _ (k.handleFrame _ _ (k.receiveBytes _ _ (k.settle h)))) h
  · exact h
  · exact h
  · exact h

theorem i2cReadFinish (n : Nat) {s : State} (h : P s) : P (s.i2cReadFinish n) := by
  unfold State.i2cReadFinish
  split
  · exact k.i2c _ _ (k.endTransfer _ (k.sendBytes _ _ h))
  · exact h
  · exact h
  · exact h

theorem stall (n : Nat) {s : State} (h : P s) : P (s.stall n) := by
  unfold State.stall
  split
  · exact k.stalls _ _ (k.i2c _ _ (k.receiveBytes _ _ h))
  · exact k.stalls _ _ (k.i2c _ _ (k.endTransfer _ (k.sendBytes _ _ h)))
  · exact h
  · exact h

theorem i2cDelivered {s : State} (h : P s) : P s.i2cDelivered := by
  unfold State.i2cDelivered
  split
  · exact k.sendBytes _ _ h
  · exact h
  · exact h
  · exact h

theorem stopUnaddressed {s : State} (h : P s) : P s.stopUnaddressed := by
  unfold State.stopUnaddressed
  split
  · exact k.i2c _ _ h
  · exact h
  · exact h
  · exact h

end KeptByPorts

/-- The row is a tick or a reset. -/
def rowRestarts : Instr → Bool
  | .tick => true
  | .powerOn _ => true
  | .resetNAsserted => true
  | .resetNReleased _ => true
  | _ => false

theorem row_of_restarts {i : Instr} (h : rowRestarts i = true) :
    i = .tick ∨ (∃ st, i = .powerOn st) ∨ i = .resetNAsserted ∨ ∃ st, i = .resetNReleased st := by
  cases i <;> simp [rowRestarts] at h ⊢

/-- Every row but a tick and the resets keeps the condition. -/
theorem KeptByPorts.exec {P : State → Prop} (k : KeptByPorts P) {s : State} (h : P s) (i : Instr) (other : rowRestarts i = false) :
    ∃ t, Machine.exec i s = .next t ∧ P t := by
  have event (e : TickEvent) : P (s.unlessReset fun s => s.takeEvent e) := State.unlessReset_keeps (fun h => k.tick h (s.maskTick_takeEvent e)) h
  have tripSample (v : Level) : P ((s.setTripPin v).unlessReset State.takeTripSample) :=
    State.unlessReset_keeps (fun h => k.tick h (State.maskTick_takeTripSample _)) (k.pins s _ h)
  induction i using Instr.rowCases with
  | command c m tag p => exact ⟨_, exec_commandRow c m tag p s, State.unlessReset_keeps (fun h => k.command m tag c p (k.settle h)) h⟩
  | tick => cases other
  | dispatch => exact ⟨_, rfl, event .dispatch⟩
  | deadlineReached => exact ⟨_, rfl, event .deadlines⟩
  | lapse m => exact ⟨_, rfl, event (.lapse m)⟩
  | periodEnd l => exact ⟨_, rfl, event (.periodEnd l)⟩
  | highPartEnd l => exact ⟨_, rfl, event (.highPartEnd l)⟩
  | inputSample v => exact ⟨_, rfl, State.unlessReset_keeps (fun h => k.tick h (State.maskTick_takeInputSample _)) (k.pins s _ h)⟩
  | acceptedEdge i => exact ⟨_, rfl, event (.edge i)⟩
  | trip => exact ⟨_, rfl, tripSample .low⟩
  | reAssertion => exact ⟨_, rfl, tripSample .low⟩
  | powerOn st => cases other
  | resetNAsserted => cases other
  | resetNReleased st => cases other
  | spiFrameStart p => exact ⟨_, rfl, k.spiStart p h⟩
  | spiFrameEnd p b => exact ⟨_, rfl, k.spiEnd p b h⟩
  | i2cAddress a r => exact ⟨_, rfl, State.unlessReset_keeps (fun h => k.i2cStart a r (k.settle h)) h⟩
  | i2cWriteEnd b => exact ⟨_, rfl, k.i2cWriteEnd b h⟩
  | i2cResponseDelivered => exact ⟨_, rfl, State.unlessReset_keeps k.i2cDelivered h⟩
  | i2cReadEnd n => exact ⟨_, rfl, State.unlessReset_keeps (k.i2cReadFinish n) h⟩
  | stallTimeout n => exact ⟨_, rfl, State.unlessReset_keeps (k.stall n) h⟩
  | riseOfTripN => exact ⟨_, rfl, tripSample .high⟩
  | stopWhileNotAddressed => exact ⟨_, rfl, State.unlessReset_keeps k.stopUnaddressed h⟩

/-! ### The timebase, the straps and the queue -/

/-- What the ticks and the resets alone move: the count, the straps sampled and the queue. -/
def State.timebase (s : State) : Word × BitVec 2 × Option Master × BitVec 7 × List Instr :=
  (s.count, s.tickUnit, s.configPort, s.i2cAddress, s.pending)

theorem timebase_of_maskBlocks {s t : State} (h : s.maskBlocks = t.maskBlocks) : s.timebase = t.timebase :=
  congrArg (a₁ := s.maskBlocks) (a₂ := t.maskBlocks) State.timebase h

theorem State.timebase_softReset (s : State) : s.softReset.timebase = s.timebase := by rw [State.softReset_eq]; rfl

theorem keptTimebase (x : Word × BitVec 2 × Option Master × BitVec 7 × List Instr) : KeptByPorts (fun s => s.timebase = x) where
  blocks _ _ same h := (timebase_of_maskBlocks same).trans h
  softReset s h := s.timebase_softReset.trans h
  spi _ p _ _ h := by cases p <;> exact h

/-- Every row but a tick and the resets leaves the timebase as it was. -/
theorem exec_timebase (i : Instr) (other : rowRestarts i = false) (s : State) : ∃ t, exec i s = .next t ∧ t.timebase = s.timebase :=
  (keptTimebase s.timebase).exec rfl i other

/-! ### The ports -/

theorem portsOk_iff (s : State) : PortsOk s ↔ (∀ m, (s.port m).fits) ∧ ∀ p, (s.spi p).select = .high → (s.spi p).receive = .idle :=
  ⟨fun ⟨responses, sending, selects⟩ => ⟨fun m => ⟨responses m, sending m⟩, selects⟩,
    fun ⟨fits, selects⟩ => ⟨fun m => (fits m).1, fun m => (fits m).2, selects⟩⟩

theorem State.spi_setSpi (s : State) (p p' : SpiPort) (b : SpiBus) : (s.setSpi p b).spi p' = if p' = p then b else s.spi p' := by
  cases p <;> cases p' <;> rfl

@[simp] theorem State.port_setSpi (s : State) (p : SpiPort) (b : SpiBus) (m : Master) : (s.setSpi p b).port m = s.port m := by cases p <;> rfl

theorem portsOk_of_maskBlocks {s t : State} (same : t.maskBlocks = s.maskBlocks) (h : PortsOk s) : PortsOk t := by
  have ports := ports_of_maskBlocks same
  have spiA := spiA_of_maskBlocks same
  have spiB := spiB_of_maskBlocks same
  rw [portsOk_iff] at h ⊢
  refine ⟨fun m => ?_, fun p => ?_⟩
  · unfold State.port; rw [ports]; exact h.1 m
  · cases p
    · show t.spiA.select = .high → t.spiA.receive = .idle; rw [spiA]; exact h.2 .a
    · show t.spiB.select = .high → t.spiB.receive = .idle; rw [spiB]; exact h.2 .b

theorem portsOk_afterReset (st : Straps) (pins : Pins) (a b : Level) (n : Nat) (q : List Instr) : PortsOk (State.afterReset st pins a b n q) := by
  rw [portsOk_iff]
  refine ⟨fun m => ?_, fun p _ => by cases p <;> rfl⟩
  have initial : (State.afterReset st pins a b n q).port m = PortRecord.initial := PerMaster.get_all _ m
  rw [initial]; exact PortRecord.fits_initial

theorem keptPorts : KeptByPorts PortsOk where
  blocks _ _ := portsOk_of_maskBlocks
  softReset s h := by
    rw [portsOk_iff] at h ⊢
    have reset (m : Master) : s.softResetPorts.port m = (s.port m).softReset := s.port_softResetPorts m
    rw [State.softReset_eq]
    generalize s.softResetInputs.inputs = inputs
    generalize s.softResetPorts = u at reset
    refine ⟨fun m => ?_, fun p => ?_⟩
    · show (u.port m).fits
      rw [reset]; exact PortRecord.fits_softReset (h.1 m)
    · cases p
      · exact h.2 .a
      · exact h.2 .b
  port s m q fits h := by
    rw [portsOk_iff] at h ⊢
    refine ⟨fun x => ?_, h.2⟩
    rw [State.port_setPort]
    split
    · exact fits (h.1 m)
    · exact h.1 x
  spi s p b idle h := by
    rw [portsOk_iff] at h ⊢
    refine ⟨fun m => by rw [State.port_setSpi]; exact h.1 m, fun x => ?_⟩
    rw [State.spi_setSpi]
    split
    · exact idle
    · exact h.2 x

theorem portsOk_advance {s : State} (h : PortsOk s) : PortsOk s.advance := h

/-- Every row keeps the ports within their bounds. -/
theorem portsOk_exec (i : Instr) {s : State} (h : PortsOk s) : ∃ t, exec i s = .next t ∧ PortsOk t := by
  cases restarts : rowRestarts i with
  | false => exact keptPorts.exec h i restarts
  | true =>
    rcases row_of_restarts restarts with rfl | ⟨st, rfl⟩ | rfl | ⟨st, rfl⟩
    · exact ⟨_, rfl, State.unlessReset_keeps (fun h => portsOk_advance (keptPorts.settle h)) h⟩
    · exact ⟨_, rfl, portsOk_afterReset ..⟩
    · exact ⟨_, rfl, portsOk_afterReset Config.resetStraps (s.setResetPin .low).pins _ _ s.draws s.pending⟩
    · refine ⟨_, rfl, ?_⟩
      split
      · exact portsOk_afterReset ..
      · exact h

end Sys2Proof.Machine
end

section
/-! PROOFS. The statements about the queue, the count, the straps and the reset state (O1, O2, O3, O4, O58, O60). -/

namespace Sys2Proof.Machine

/-- The steps that keep the ports within their bounds are the rows on the queue's rest. -/
theorem portsOk_step {s t : State} (h : PortsOk s) (next : step s = .next t) : PortsOk t := by
  unfold step at next
  split at next
  · cases next; exact h
  · next i rest _ =>
    have popped : PortsOk { s with pending := rest } := h
    obtain ⟨u, row, kept⟩ := portsOk_exec i popped
    rw [row] at next
    cases next
    exact kept

/-- Settles O58: holdings and filters by the operations of the blocks, the ports by the moves of the ports. -/
theorem stepKeepsHoldingsFiltersAndPorts : Obligations.StepKeepsHoldingsFiltersAndPorts := fun _ _ next =>
  ⟨fun h => keptHoldings_posts.step keptHoldings (fun _ h => h) h next, fun h => keptFilters_posts.step keptFilters (fun _ h => h) h next,
    fun h => portsOk_step h next⟩

theorem KeptByCommands.at_reset {P : State → Prop} (k : KeptByCommands P) : P State.reset := k.reset ..

/-- Settles O60: what every step keeps holds after each of the resets, and `State.reset` is one of them. -/
theorem resetStateKeepsEveryRule : Obligations.ResetStateKeepsEveryRule :=
  ⟨keptFields.at_reset, keptPool.at_reset, keptPosters.at_reset, keptOwners.at_reset, keptLines.at_reset, keptHoldings.at_reset,
    keptFilters.at_reset, portsOk_afterReset .., keptTimes.at_reset⟩

/-- Settles O1. -/
theorem stepRunsTheFrontOfTheQueue : Obligations.StepRunsTheFrontOfTheQueue := ⟨fun _ _ _ => rfl, fun _ => rfl⟩

/-- Settles O4: a tick settles and then advances; settling from rest is nothing. -/
theorem tickAdvancesTheCount : Obligations.TickAdvancesTheCount :=
  ⟨fun _ high => congrArg Host.Outcome.next (State.outside_of_high high State.advance), fun _ quiet => State.settle_of_quiet quiet⟩

/-- Settles O2: the tick and the resets set the count; every other row leaves the timebase and the queue. -/
theorem everyRowCompletesAndOnlyTicksMoveTheCount : Obligations.EveryRowCompletesAndOnlyTicksMoveTheCount := by
  intro i s
  cases restarts : rowRestarts i with
  | false =>
    obtain ⟨t, row, same⟩ := exec_timebase i restarts s
    simp only [State.timebase, Prod.mk.injEq] at same
    obtain ⟨count, -, -, -, pending⟩ := same
    refine ⟨t, row, pending, count.trans ?_⟩
    split
    · cases restarts
    · cases restarts
    · cases restarts
    · cases restarts
    · rfl
  | true =>
    rcases row_of_restarts restarts with rfl | ⟨st, rfl⟩ | rfl | ⟨st, rfl⟩
    · refine ⟨_, rfl, ?_⟩
      cases reset : s.pins.resetN with
      | low => rw [State.outside_of_low reset]; exact ⟨rfl, rfl⟩
      | high =>
        have pending := s.pending_settle
        have count := s.count_settle
        rw [State.outside_of_high reset]
        generalize s.settle = u at pending count
        exact ⟨pending, congrArg (· + 1) count⟩
    · exact ⟨_, rfl, rfl, rfl⟩
    · exact ⟨_, rfl, rfl, rfl⟩
    · refine ⟨_, rfl, ?_⟩
      cases reset : s.pins.resetN with
      | low => simp [State.inReset, reset, State.releaseReset, State.restart, State.afterReset, State.setResetPin]
      | high => simp [State.inReset, reset]

theorem strapsInForce_afterReset (st : Straps) (pins : Pins) (a b : Level) (n : Nat) (q : List Instr) :
    StrapsInForce (State.afterReset st pins a b n q) st := by
  have port : ∀ cfg : BitVec 2, (match cfg with | 0#2 => none | 1#2 => some Master.a | 2#2 => some Master.b | _ => some Master.c) =
      if cfg = 0 then none else if cfg = 1 then some .a else if cfg = 2 then some .b else some .c := by decide
  have address : ∀ addr : BitVec 3, (0x58#7 + addr.setWidth 7).toNat = 0x58 + addr.toNat := by decide
  exact ⟨rfl, port st.cfg, address st.addr⟩

/-- Settles O3: the straps change only where they are sampled. -/
theorem strapsHoldUntilTheNextReset : Obligations.StrapsHoldUntilTheNextReset := by
  have advance (u : State) : u.advance.tickUnit = u.tickUnit ∧ u.advance.configPort = u.configPort ∧ u.advance.i2cAddress = u.i2cAddress :=
    ⟨rfl, rfl, rfl⟩
  refine ⟨fun i s t row notPower notRelease => ?_, fun s st => ⟨_, rfl, strapsInForce_afterReset ..⟩, fun s st low => ⟨_, rfl, ?_⟩⟩
  · cases restarts : rowRestarts i with
    | false =>
      obtain ⟨u, row', same⟩ := exec_timebase i restarts s
      cases row.symm.trans row'
      simp only [State.timebase, Prod.mk.injEq] at same
      obtain ⟨-, unit, config, address, -⟩ := same
      exact ⟨unit, config, address⟩
    | true =>
      rcases row_of_restarts restarts with rfl | ⟨st, rfl⟩ | rfl | ⟨st, rfl⟩
      · cases row
        exact State.unlessReset_keeps (P := fun t => t.tickUnit = s.tickUnit ∧ t.configPort = s.configPort ∧ t.i2cAddress = s.i2cAddress)
          (fun _ => by simpa using advance s.settle) ⟨rfl, rfl, rfl⟩
      · exact absurd rfl (notPower st)
      · cases row; exact ⟨rfl, rfl, rfl⟩
      · exact absurd rfl (notRelease st)
  · rw [State.inReset, low]
    exact strapsInForce_afterReset ..

end Sys2Proof.Machine
end

section
/-! PROOFS. Events with nothing due, and the part while RESET_N is low (O7, O8). -/

namespace Sys2Proof.Machine

/-! ### An event of a tick with nothing due -/

theorem State.dispatch_of_not_due {s : State} (h : ∀ e ∈ s.timed, e.due ≠ s.count) : s.dispatch = s := by
  have none_due : s.dueEntries = [] := by simpa [dueEntries, List.filter_eq_nil_iff] using h
  have all_stay : (s.timed.filter fun e => !decide (e.due = s.count)) = s.timed := by simpa [List.filter_eq_self] using h
  unfold dispatch
  rw [none_due, all_stay]
  rfl

theorem State.expire_of_not_due {s : State} (h : ∀ e ∈ s.armed, e.deadline ≠ some s.count) : s.expire = s := by
  have none_due : s.expiredEntries = [] := by simpa [expiredEntries, List.filter_eq_nil_iff] using h
  have all_stay : (s.armed.filter fun e => !decide (e.deadline = some s.count)) = s.armed := by simpa [List.filter_eq_self] using h
  unfold expire
  rw [none_due, all_stay]
  rfl

theorem State.lapse_of_not_due {s : State} {m : Master} (h : ∀ p, s.session m ≠ .active p s.count) : s.lapse m = s := by
  have not_due : s.lapseDue m = false := by
    unfold lapseDue
    split
    · next p d active => exact decide_eq_false fun now => h p (by rw [active, now])
    · rfl
    · rfl
  simp [lapse, not_due]

theorem State.periodEnd_of_not_due {s : State} {l : Fin 16}
    (h : (s.gen l).state = .idle ∨ s.count ≠ (s.gen l).periodStart + BitVec.ofNat 32 (s.gen l).periodLength) : s.periodEnd l = s := by
  have not_due : s.periodEndDue l = false := by
    rcases h with idle | elsewhere
    · simp [periodEndDue, idle]
    · simp [periodEndDue, elsewhere.symm]
  simp [periodEnd, not_due]

theorem State.highPartEnd_of_not_due {s : State} {l : Fin 16}
    (h : (s.gen l).state = .idle ∨ (s.gen l).current.record.highTime = 0 ∨ (s.gen l).periodLength ≤ (s.gen l).current.record.highTime.toNat ∨
      s.count ≠ (s.gen l).periodStart + (s.gen l).current.record.highTime.setWidth 32) : s.highPartEnd l = s := by
  have not_due : s.highPartEndDue l = false := by
    rcases h with idle | low | full | elsewhere
    · simp [highPartEndDue, idle]
    · simp [highPartEndDue, low]
    · simp [highPartEndDue, Nat.not_lt.mpr full]
    · simp [highPartEndDue, elsewhere.symm]
  simp [highPartEnd, not_due]

theorem State.takeEdge_of_not_due {s : State} {i : Fin 8} (h : ∀ e, (s.input i).filter ≠ .candidate e true) : s.takeEdge i = s := by
  unfold takeEdge
  split
  · next e due => exact absurd due (h e)
  · rfl
  · rfl

/-- What changes nothing as an operation changes nothing as an event of the part. -/
theorem State.unlessReset_of_same {s : State} {f : State → State} (same : f s = s) : s.unlessReset f = s :=
  State.unlessReset_keeps (P := (· = s)) (fun _ => same) rfl

/-- Settles O7: each event tests first whether it is due, and each bus event whether its port is in the state it ends. -/
theorem eventWithNothingDueChangesNothing : Obligations.EventWithNothingDueChangesNothing := by
  have event {s : State} {f : State → State} (same : f s = s) : Host.Outcome.next (s.unlessReset f) = Host.Outcome.next (φ := Fault) (ρ := Refusal) s :=
    congrArg Host.Outcome.next (State.unlessReset_of_same same)
  refine ⟨⟨fun s h => event (State.dispatch_of_not_due h), fun s h => event (State.expire_of_not_due h), fun m s h => event (State.lapse_of_not_due h),
    fun l s h => event (State.periodEnd_of_not_due h), fun l s h => event (State.highPartEnd_of_not_due h),
    fun i s h => event (State.takeEdge_of_not_due h)⟩, ?_, ?_, ?_, ?_, ?_, ?_, ?_⟩
  · intro p s low
    exact congrArg Host.Outcome.next (if_neg (by rw [low]; decide))
  · intro p b s high
    exact congrArg Host.Outcome.next (if_neg (by rw [high]; decide))
  · intro b s other
    refine congrArg Host.Outcome.next ?_
    unfold State.i2cWriteEnd
    split
    · next write => exact absurd write other
    · rfl
    · rfl
    · rfl
  · intro n s other
    refine ⟨event ?_, event ?_⟩
    · unfold State.i2cReadFinish
      split
      · next read => exact absurd read other
      · rfl
      · rfl
      · rfl
    · unfold State.i2cDelivered
      split
      · next read => exact absurd read other
      · rfl
      · rfl
      · rfl
  · intro n s notWrite notRead
    refine event ?_
    unfold State.stall
    split
    · next write => exact absurd write notWrite
    · next read => exact absurd read notRead
    · rfl
    · rfl
  · intro s other
    refine event ?_
    unfold State.stopUnaddressed
    split
    · next unaddressed => exact absurd unaddressed other
    · rfl
    · rfl
    · rfl
  · intro st s high
    exact congrArg Host.Outcome.next (if_neg (by simp [State.inReset, high]))

/-- Settles O8: while RESET_N is low `State.unlessReset` lets nothing act, and the pins stand outside it. -/
theorem nothingIsTakenWhileResetNIsLow : Obligations.NothingIsTakenWhileResetNIsLow := by
  intro s low
  have event (f : State → State) : Host.Outcome.next (s.unlessReset f) = Host.Outcome.next (φ := Fault) (ρ := Refusal) s :=
    congrArg Host.Outcome.next (State.unlessReset_of_low low f)
  refine ⟨fun c m tag p => ?_, fun i mem => ?_, fun m => event _, fun l => event _, fun l => event _, fun i => event _, fun a r => event _,
    fun b => ?_, fun n => event _, fun n => event _, fun v => ?_, ?_, ?_, ?_⟩
  · rw [exec_commandRow]; exact event _
  · simp only [List.mem_cons, List.not_mem_nil, or_false] at mem
    rcases mem with rfl | rfl | rfl | rfl | rfl
    · exact event _
    · exact event _
    · exact event _
    · exact event _
    · exact event _
  · refine congrArg Host.Outcome.next ?_
    unfold State.i2cWriteEnd
    split
    · exact State.outside_of_low low _
    · rfl
    · rfl
    · rfl
  · exact congrArg Host.Outcome.next (State.unlessReset_of_low (s := s.setInputPins v) low _)
  · exact congrArg Host.Outcome.next (State.unlessReset_of_low (s := s.setTripPin .low) low _)
  · exact congrArg Host.Outcome.next (State.unlessReset_of_low (s := s.setTripPin .low) low _)
  · exact congrArg Host.Outcome.next (State.unlessReset_of_low (s := s.setTripPin .high) low _)

end Sys2Proof.Machine
end

section
/-! PROOFS. The resets (O9, O10). -/

namespace Sys2Proof.Machine

/-! ### Power-on and RESET_N -/

@[simp] theorem State.line_replicate (s : State) (r : LineRecord) (l : Fin 16) : ({ s with lines := Vector.replicate 16 r } : State).line l = r :=
  Vector.getElem_replicate l.isLt

@[simp] theorem State.gen_replicate (s : State) (g : Generator) (l : Fin 16) : ({ s with gens := Vector.replicate 16 g } : State).gen l = g :=
  Vector.getElem_replicate l.isLt

theorem input_afterReset (st : Straps) (pins : Pins) (a b : Level) (n : Nat) (q : List Instr) (i : Fin 8) :
    (State.afterReset st pins a b n q).input i = InputRecord.initial := Vector.getElem_replicate i.isLt

/-- What power-on and RESET_N build is at the reset values of every block (R10). -/
theorem blocksReset_afterReset (st : Straps) (pins : Pins) (a b : Level) (n : Nat) (q : List Instr) :
    BlocksReset (State.afterReset st pins a b n q) := by
  have port (m : Master) : (State.afterReset st pins a b n q).port m = PortRecord.initial := PerMaster.get_all _ m
  have input := input_afterReset st pins a b n q
  refine ⟨rfl, rfl, rfl, rfl, fun m => PerMaster.get_all _ m, fun l => Vector.getElem_replicate l.isLt, fun l => Vector.getElem_replicate l.isLt,
    fun i => ?_, fun m => PerMaster.get_all _ m, fun m => PerMaster.get_all _ m, fun m => PerMaster.get_all _ m, rfl, rfl, rfl, fun m => ?_,
    fun p => by cases p <;> rfl, rfl, rfl⟩
  · rw [input i]; exact ⟨rfl, rfl, rfl, rfl⟩
  · rw [port m]; exact ⟨rfl, rfl, rfl, rfl, rfl, rfl, rfl⟩

/-- Before the first sample the levels of the inputs stand LOW and the last sample of TRIP_N HIGH (log 10). -/
theorem unsampled_afterReset (st : Straps) (pins : Pins) (a b : Level) (n : Nat) (q : List Instr) :
    let t := State.afterReset st pins a b n q
    t.sampled = false ∧ (∀ i, (t.input i).raw = .low ∧ (t.input i).filtered = .low) ∧ t.trip.lastSample = .high :=
  ⟨rfl, fun i => by rw [input_afterReset]; exact ⟨rfl, rfl⟩, rfl⟩

/-- Settles O9: the three resets build one state from the pins and the straps. -/
theorem resetsLeaveEveryBlockAtItsResetValues : Obligations.ResetsLeaveEveryBlockAtItsResetValues := by
  refine ⟨⟨fun s st => ?_, fun s => ?_, fun s st low => ?_, fun s st high => ?_⟩, blocksReset_afterReset .., unsampled_afterReset .., ⟨rfl, rfl⟩,
    strapsInForce_afterReset .., rfl, rfl, fun p => by cases p <;> rfl, fun m => by cases m <;> decide⟩
  · refine ⟨_, rfl, ⟨blocksReset_afterReset .., unsampled_afterReset .., fun p => by cases p <;> rfl⟩, rfl, fun high => ?_, fun low => ?_⟩
    · exact ⟨decide_eq_true high, decide_eq_true high⟩
    · exact ⟨decide_eq_false (by simp [low]), decide_eq_false (by simp [low])⟩
  · have blocks := blocksReset_afterReset Config.resetStraps (s.setResetPin .low).pins s.spiA.select s.spiB.select s.draws s.pending
    have unsampled := unsampled_afterReset Config.resetStraps (s.setResetPin .low).pins s.spiA.select s.spiB.select s.draws s.pending
    exact ⟨_, rfl, ⟨blocks, unsampled, fun p => by cases p <;> rfl⟩, rfl, rfl, rfl⟩
  · have released : exec (.resetNReleased st) s = .next (s.releaseReset st) := congrArg Host.Outcome.next (if_pos (decide_eq_true low))
    exact ⟨_, released, ⟨blocksReset_afterReset .., unsampled_afterReset .., fun p => by cases p <;> rfl⟩, rfl, rfl, rfl⟩
  · exact congrArg Host.Outcome.next (if_neg (by simp [State.inReset, high]))

/-! ### RESET_DEVICE -/

/-- A configuration command of the configuring port is served while its session is not LAPSED (R139, R164). -/
theorem commonRefusal_of_configPort {t : State} {m : Master} {c : Command} {n : Nat} (config : isConfigCommand true c = true)
    (port : t.configPort = some m) (session : t.session m ≠ .lapsed) (length : fixedLength c = some n) : t.commonRefusal m c n = none := by
  have need : isConfigCommand true c = true → sessionNeedOf true c = .notLapsed := by cases c <;> decide
  have allowed : sessionRefusal .notLapsed (t.session m) = none := by
    cases h : t.session m with
    | closed => rfl
    | active p d => rfl
    | lapsed => exact absurd h session
  simp [State.commonRefusal, length, config, port, need config, allowed]

/-- RESET_DEVICE, once it is served, answers OK from the state it leaves (R183). -/
theorem exec_resetDevice {s t : State} {m : Master} (tag : Byte) (taken : TakenIn s m t) (config : t.configPort = some m)
    (session : t.session m ≠ .lapsed) : exec (.resetDevice m tag []) s = .next (t.softReset.respond m tag 0x7F ⟨.ok, []⟩) :=
  exec_of_served taken (c := .resetDevice) (p := []) (commonRefusal_of_configPort rfl config session rfl) tag

/-- Settles O10. -/
theorem resetDeviceResetsAllButTheTimebase : Obligations.ResetDeviceResetsAllButTheTimebase := by
  intro s t m tag taken config session
  refine ⟨_, exec_resetDevice tag taken config session, ?_⟩
  have input := t.input_softResetInputs
  have port := t.port_softResetPorts
  rw [State.respond, State.buildResponse_eq, State.softReset_eq]
  simp only [State.input] at input
  simp only [State.port] at port
  generalize t.softResetInputs.inputs = inputs at input
  generalize t.softResetPorts.ports = ports at port
  refine ⟨rfl, fun x => ⟨PerMaster.get_all _ x, PerMaster.get_all _ x, PerMaster.get_all _ x, PerMaster.get_all _ x⟩,
    fun l => ⟨Vector.getElem_replicate l.isLt, Vector.getElem_replicate l.isLt⟩, fun i => input i, fun x => ?_⟩
  rw [State.port_setPort]
  split
  · next here =>
    subst here
    simp only [State.port, port, State.noticeQueue, State.capture, PerMaster.get_all]
    rfl
  · exact port x

end Sys2Proof.Machine
end

section
/-! PROOFS. What a response is, and the refusals before the owning block (O11, O13, O14, O15). -/

namespace Sys2Proof.Machine

/-! ### The bytes of a field and the CRC -/

theorem extractLsb'_eq_ofNat {w : Nat} (x : BitVec w) (low n : Nat) : x.extractLsb' low n = BitVec.ofNat n (x.toNat / 2 ^ low) := by
  rw [BitVec.extractLsb', Nat.shiftRight_eq_div_pow]

/-- One byte is an exclusive-or and eight shifts (R187). -/
theorem crcByte_eq_iterate (r b : Byte) : crcByte r b = (fun r : Byte => if r.getLsbD 7 then (r <<< 1) ^^^ 0x07 else r <<< 1)^[8] (r ^^^ b) := by
  have shift : (fun r : Byte => if r.getLsbD 7 then (r <<< 1) ^^^ 0x07 else r <<< 1) = crcShift := by
    funext r
    rw [crcShift, BitVec.msb_eq_getLsbD_last]
    rfl
  rw [shift]
  rfl

theorem crc8_bytes (r : Response) : crc8 r.bytes = 0 := by rw [Response.bytes, crc8_concat, crcByte_self]

/-! ### Refusals -/

/-- The refusals of the length and of the port pass over a command of its length that the port may give: what is left is its session (R139, R181). -/
theorem commonRefusal_eq_sessionRefusal {t : State} {m : Master} {c : Command} {n : Nat} (length : ∀ k, fixedLength c = some k → n = k)
    (port : isConfigCommand t.configPort.isSome c = false ∨ t.configPort = some m) :
    t.commonRefusal m c n = sessionRefusal (sessionNeedOf t.configPort.isSome c) (t.session m) := by
  have right_port : (isConfigCommand t.configPort.isSome c && decide (t.configPort ≠ some m)) = false := by
    rcases port with other | here
    · rw [other]; rfl
    · simp [here]
  unfold State.commonRefusal
  cases fixed : fixedLength c with
  | none => simp only [right_port]; rfl
  | some k => simp only [right_port, length k fixed]; simp

/-- A configuration command from another port than the configuring one is refused, in every session state (R181). -/
theorem commonRefusal_of_other_port {t : State} {m : Master} {c : Command} {n : Nat} (length : fixedLength c = some n)
    (config : isConfigCommand t.configPort.isSome c = true) (other : t.configPort ≠ some m) : t.commonRefusal m c n = some .notConfig := by
  simp [State.commonRefusal, length, config, other]

end Sys2Proof.Machine
end

section

open Sys2Proof Sys2Proof.Machine

/-- Settles O11. -/
theorem responseIsBuiltAtTheTaking : Obligations.ResponseIsBuiltAtTheTaking := by
  refine ⟨⟨fun s m tag code r => ⟨rfl, fun x other => State.port_setPort_ne _ _ other, ?_⟩, fun r => ⟨r.body, rfl, ?_⟩⟩,
    ⟨rfl, fun bs b => ?_, by decide +kernel, by decide +kernel, crc8_bytes⟩, fun c => ?_, fun o => ?_, fun m => ?_, fun v => ?_, fun k => ?_, fun n => rfl,
    fun x => ?_, fun x => ?_, fun x => ?_⟩
  · rw [State.respond, State.port_setPort_self, State.buildResponse_eq]
  · unfold Response.body resultCode
    cases r.status <;> rfl
  · rw [crc8_concat, crcByte_eq_iterate]
  · cases c <;> rfl
  · rcases o with _ | m
    · rfl
    · cases m <;> rfl
  · cases m <;> rfl
  · cases v <;> rfl
  · cases k <;> rfl
  · simp [bytes16, extractLsb'_eq_ofNat]
  · simp [bytes24, extractLsb'_eq_ofNat]
  · simp [bytes32, extractLsb'_eq_ofNat]

/-- Settles O13: the length is the first of the common refusals. -/
theorem wrongLengthIsRefused : Obligations.WrongLengthIsRefused := by
  intro s t m tag p c n taken mem wrong
  have fixed : fixedLength c = some n := by
    revert mem
    have all : ∀ x ∈ [(Command.nop, 0), (.time, 0), (.status, 0), (.renew, 0), (.close, 0), (.readInputs, 0), (.clearTrip, 0), (.resetDevice, 0),
        (.release, 1), (.queryLine, 1), (.cancelLine, 1), (.readCaptures, 1), (.readNotices, 1), (.openSession, 2), (.claim, 2), (.cancel, 2),
        (.queryEntry, 2), (.subscribe, 2), (.setQuota, 2), (.setSafe, 2), (.setInput, 3)], fixedLength x.1 = some x.2 := by decide
    exact all (c, n)
  exact exec_of_refused taken (commonRefusal_of_length_ne fixed wrong t m) tag

/-- Settles O14: the configuring port comes before the session, and both after the length. -/
theorem configurationAndSessionRefusals : Obligations.ConfigurationAndSessionRefusals := by
  refine ⟨⟨fun s t m tag p c n taken mem length other => ?_, fun s t m x tag taken config other => ?_⟩, fun s t m tag p c taken mem => ?_,
    fun s t m tag p c taken mem config session => ?_⟩
  · have all : ∀ x ∈ [(Command.setQuota, 2), (.setSafe, 2), (.setInput, 3), (.resetDevice, 0)],
        fixedLength x.1 = some x.2 ∧ ∀ d, isConfigCommand d x.1 = true := by decide
    obtain ⟨fixed, config⟩ := all (c, n) mem
    exact exec_of_refused taken (commonRefusal_of_other_port (by rw [length]; exact fixed) (config _) other) tag
  · have elsewhere : t.configPort ≠ some m := by rw [config]; exact fun e => other (Option.some.inj e)
    have designated : isConfigCommand t.configPort.isSome .clearTrip = true := by rw [config]; rfl
    exact exec_of_refused taken (c := .clearTrip) (p := []) (commonRefusal_of_other_port rfl designated elsewhere) tag
  · have needs : (∀ k, fixedLength c = some k → p.length = k) ∧ isConfigCommand t.configPort.isSome c = false ∧
        sessionNeedOf t.configPort.isSome c = .active := by
      rcases mem with mem | rfl | ⟨rfl, rfl, undesignated⟩
      · have all : ∀ x ∈ [(Command.renew, 0), (.close, 0), (.claim, 2), (.release, 1), (.cancel, 2), (.cancelLine, 1), (.queryEntry, 2),
            (.subscribe, 2), (.readCaptures, 1)], fixedLength x.1 = some x.2 ∧ ∀ d, isConfigCommand d x.1 = false ∧ sessionNeedOf d x.1 = .active := by
          decide
        obtain ⟨fixed, needs⟩ := all (c, p.length) mem
        exact ⟨fun k length => Option.some.inj (fixed.symm.trans length), needs _⟩
      · exact ⟨fun k none => (by cases none), rfl, rfl⟩
      · rw [undesignated]
        exact ⟨fun k zero => Option.some.inj zero, rfl, rfl⟩
    obtain ⟨length, config, need⟩ := needs
    have refusal := commonRefusal_eq_sessionRefusal (m := m) length (.inl config)
    rw [need] at refusal
    exact ⟨fun closed => exec_of_refused taken (refusal.trans (by rw [closed]; rfl)) tag,
      fun lapsed => exec_of_refused taken (refusal.trans (by rw [lapsed]; rfl)) tag⟩
  · have all : ∀ x ∈ [(Command.setQuota, 2), (.setSafe, 2), (.setInput, 3), (.resetDevice, 0), (.clearTrip, 0)],
        fixedLength x.1 = some x.2 ∧ sessionNeedOf true x.1 = .notLapsed := by decide
    obtain ⟨fixed, need⟩ := all (c, p.length) mem
    have refusal := commonRefusal_eq_sessionRefusal (t := t) (m := m) (c := c) (fun k length => Option.some.inj (fixed.symm.trans length)) (.inr config)
    have designated : t.configPort.isSome = true := by rw [config]; rfl
    rw [designated, need, session] at refusal
    exact exec_of_refused taken refusal tag

/-- Settles O15. -/
theorem collisionKeepsTheResponseAndSetsResent : Obligations.CollisionKeepsTheResponseAndSetsResent := by
  intro s m tag p c r high held
  rw [exec_commandRow, State.outside_of_high high, State.command, held]
  rfl

end

section
/-! PROOFS. The frames of the SPI ports and the transactions of port C (O16 to O22). A port operation on `s.setPort m q` is one on the record `q`. -/

namespace Sys2Proof.Machine

/-! ### What a fetch fixes to be sent -/

/-- The first five bytes of an IDLE response (R171). -/
theorem State.body_idleResponse (s : State) (m : Master) :
    (s.idleResponse m).body = [0, 0, 0,
      (if (s.noticeQueue m).queue = [] then 0 else 1) ||| (if (s.capture m).queue = [] then 0 else 2) ||| (if s.trip.state = .tripped then 4 else 0), 0] := by
  have flags : (s.idleResponse m).flagsByte =
      (if (s.noticeQueue m).queue = [] then 0 else 1) ||| (if (s.capture m).queue = [] then 0 else 2) ||| (if s.trip.state = .tripped then 4 else 0) := by
    rw [State.idleResponse, State.buildResponse_eq, Response.flagsByte]
    by_cases notices : (s.noticeQueue m).queue = []
    all_goals by_cases captures : (s.capture m).queue = []
    all_goals simp [notices, captures]
  unfold Response.body
  rw [flags]
  rfl

/-- A fetch fixes the pending response, or an IDLE response with the flags as they stand (R171, R173, R178). -/
theorem State.fetched_spec (s : State) (m : Master) :
    (∀ r, (s.port m).response = some r → (s.fetched m).bytes = r.bytes ∧ (s.fetched m).holds = true) ∧
    ((s.port m).response = none → (s.fetched m).holds = false ∧ ∃ flags : Byte,
      (s.fetched m).bytes = [0, 0, 0, flags, 0] ++ [crc8 [0, 0, 0, flags, 0]] ∧
      flags = (if (s.noticeQueue m).queue = [] then 0 else 1) ||| (if (s.capture m).queue = [] then 0 else 2) |||
        (if s.trip.state = .tripped then 4 else 0)) := by
  unfold State.fetched
  refine ⟨fun r held => ?_, fun none_held => ?_⟩
  · rw [held]; exact ⟨rfl, rfl⟩
  · rw [none_held]
    exact ⟨rfl, _, by simp only [Response.bytes, s.body_idleResponse], rfl⟩

/-! ### The classes of the bytes received -/

theorem classifySpi_of_lt_three {bytes : List Byte} (short : bytes.length < 3) : classifySpi bytes = .empty := by
  match bytes, short with
  | [], _ => rfl
  | [_], _ => rfl
  | [_, _], _ => rfl

theorem classifyFrame_aborted {code tag len : Byte} {rest : List Byte} (short : rest.length < 1 + len.toNat) :
    classifyFrame code tag len rest = .aborted := by
  rw [classifyFrame, if_neg (by omega)]

/-- Three bytes or more without the CRC byte are an aborted frame, at an SPI port as at port C (R174, R177). -/
theorem classify_of_incomplete {bytes : List Byte} (three : 3 ≤ bytes.length) (short : bytes.length < 4 + (byteAt bytes 2).toNat) :
    classifySpi bytes = .aborted ∧ classifyI2c bytes = .aborted := by
  match bytes, three with
  | code :: tag :: len :: rest, _ =>
    have rest_short : rest.length < 1 + len.toNat := by
      simp only [List.length_cons, byteAt, List.getD_cons_succ, List.getD_cons_zero] at short
      omega
    exact ⟨classifyFrame_aborted rest_short, classifyFrame_aborted rest_short⟩

theorem classifyI2c_of_short {bytes : List Byte} (short : bytes.length = 1 ∨ bytes.length = 2) : classifyI2c bytes = .aborted := by
  match bytes, short with
  | [_], _ => rfl
  | [_, _], _ => rfl

/-- The frame of a code, a tag and a payload with the CRC byte `crc`, and what follows it. -/
def frameBytes (code tag : Byte) (payload : List Byte) (crc : Byte) (extra : List Byte) : List Byte :=
  [code, tag, BitVec.ofNat 8 payload.length] ++ payload ++ [crc] ++ extra

theorem classify_frameBytes (code tag crc : Byte) (payload extra : List Byte) (few : payload.length ≤ 255) :
    classifySpi (frameBytes code tag payload crc extra) =
        .complete code tag payload (decide (crc8 ([code, tag, BitVec.ofNat 8 payload.length] ++ payload) = crc)) ∧
      classifyI2c (frameBytes code tag payload crc extra) =
        .complete code tag payload (decide (crc8 ([code, tag, BitVec.ofNat 8 payload.length] ++ payload) = crc)) := by
  have split : frameBytes code tag payload crc extra = code :: tag :: BitVec.ofNat 8 payload.length :: (payload ++ crc :: extra) := by
    simp [frameBytes]
  rw [split]
  exact ⟨classifyFrame_complete code tag crc payload extra few, classifyFrame_complete code tag crc payload extra few⟩

/-! ### The end of an SPI frame -/

/-- What a port that sends `x` holds when a frame of `n` bytes has ended, before the frame is handled (R171, R172, R174). -/
def PortRecord.exchanged (q : PortRecord) (x : Sending) (n : Nat) : PortRecord :=
  { q with
    bytesReceived := n, bytesSent := n, wire := wireBytes x.bytes n
    sending := some { x with holds := decide (x.holds = true ∧ n < x.bytes.length) }
    response := if x.holds = true ∧ x.bytes.length ≤ n then none else q.response }

theorem State.spiFinish_eq {s : State} {p : SpiPort} {x : Sending} (sending : (s.port (portMaster p)).sending = some x) (bytes : List Byte) :
    s.spiFinish p bytes =
      (((s.setPort (portMaster p) ((s.port (portMaster p)).exchanged x bytes.length)).handleFrame (portMaster p) (classifySpi bytes)).endTransfer
        (portMaster p)).setSpi p { receive := .idle, select := .high } := by
  have moved : (s.receiveBytes (portMaster p) bytes.length).sendBytes (portMaster p) bytes.length =
      s.setPort (portMaster p) ((s.port (portMaster p)).exchanged x bytes.length) := by
    have received : ({ s.port (portMaster p) with bytesReceived := bytes.length } : PortRecord).sending = some x := sending
    rw [State.sendBytes, State.receiveBytes, State.port_setPort_self, State.setPort_setPort, PortRecord.sent_of_sending received]
    rfl
  rw [State.spiFinish, moved]

/-- An end of a frame is taken once the events of the tick are. -/
theorem exec_spiFrameEnd {s : State} {p : SpiPort} (high : s.pins.resetN = .high) (bus : s.spi p = { receive := .inFrame, select := .low })
    {x : Sending} (sending : (s.settle.port (portMaster p)).sending = some x) (bytes : List Byte) :
    exec (.spiFrameEnd p bytes) s =
      .next ((((s.settle.setPort (portMaster p) ((s.settle.port (portMaster p)).exchanged x bytes.length)).handleFrame (portMaster p)
        (classifySpi bytes)).endTransfer (portMaster p)).setSpi p { receive := .idle, select := .high }) := by
  have taken : s.spiEnd p bytes = s.settle.spiFinish p bytes := by
    simp [State.spiEnd, bus, State.inReset, high]
  rw [← State.spiFinish_eq sending, ← taken]
  rfl

/-- The end of a write is taken once the events of the tick are. -/
theorem exec_i2cWriteEnd {s : State} (high : s.pins.resetN = .high) (write : s.i2c = .write) (bytes : List Byte) :
    exec (.i2cWriteEnd bytes) s =
      .next (((s.settle.setPort .c { s.settle.port .c with bytesReceived := bytes.length }).handleFrame .c (classifyI2c bytes)).setI2c .idle) := by
  have taken : s.i2cWriteEnd bytes = s.settle.i2cWriteFinish bytes := by
    rw [State.i2cWriteEnd, write]
    exact State.outside_of_high high _
  exact congrArg Host.Outcome.next taken

/-! ### The answers of a frame -/

theorem State.endTransfer_setPort (s : State) (m : Master) (q : PortRecord) :
    (s.setPort m q).endTransfer m = s.setPort m { q with sending := none } := by
  rw [State.endTransfer, State.port_setPort_self, State.setPort_setPort]

theorem State.countAbort_setPort (s : State) (m : Master) (q : PortRecord) :
    (s.setPort m q).countAbort m = s.setPort m { q with aborts := satInc q.aborts } := by
  rw [State.countAbort, State.port_setPort_self, State.setPort_setPort]

theorem State.respond_setPort (s : State) (m : Master) (q : PortRecord) (tag code : Byte) (r : Reply) :
    (s.setPort m q).respond m tag code r = s.setPort m { q with response := some (s.buildResponse m tag code r) } := by
  rw [State.respond, State.port_setPort_self, State.setPort_setPort]
  rfl

theorem State.collide_setPort (s : State) (m : Master) (q : PortRecord) (r : Response) :
    (s.setPort m q).collide m r = s.setPort m { q with response := some { r with resent := true }, collisions := satInc q.collisions } := by
  rw [State.collide, State.port_setPort_self, State.setPort_setPort]

/-- The record of a port that has answered a frame with a bad CRC: BAD_CRC, or a collision (R172). -/
def PortRecord.answeredBadCrc (q : PortRecord) (answer : Response) : PortRecord :=
  match q.response with
  | none => { q with crcErrors := satInc q.crcErrors, response := some answer }
  | some r => { q with crcErrors := satInc q.crcErrors, collisions := satInc q.collisions, response := some { r with resent := true } }

/-- The record of a port that has answered a frame with an unknown code: UNKNOWN_COMMAND, or a collision (R172, R181). -/
def PortRecord.answeredUnknown (q : PortRecord) (answer : Response) : PortRecord :=
  match q.response with
  | none => { q with response := some answer }
  | some r => { q with collisions := satInc q.collisions, response := some { r with resent := true } }

theorem PortRecord.endSending_answeredBadCrc (q : PortRecord) (answer : Response) :
    { q.answeredBadCrc answer with sending := none } = ({ q with sending := none } : PortRecord).answeredBadCrc answer := by
  unfold answeredBadCrc; cases q.response <;> rfl

theorem PortRecord.endSending_answeredUnknown (q : PortRecord) (answer : Response) :
    { q.answeredUnknown answer with sending := none } = ({ q with sending := none } : PortRecord).answeredUnknown answer := by
  unfold answeredUnknown; cases q.response <;> rfl

theorem State.badFrame_setPort (s : State) (m : Master) (q : PortRecord) (code tag : Byte) :
    (s.setPort m q).badFrame m code tag = s.setPort m (q.answeredBadCrc (s.buildResponse m tag code (Reply.refuse .badCrc))) := by
  have counted : (s.setPort m q).countCrcError m = s.setPort m { q with crcErrors := satInc q.crcErrors } := by
    rw [State.countCrcError, State.port_setPort_self, State.setPort_setPort]
  rw [State.badFrame, counted, State.port_setPort_self, PortRecord.answeredBadCrc]
  cases q.response with
  | none => exact State.respond_setPort ..
  | some r => exact State.collide_setPort ..

theorem State.goodFrame_setPort {code : Byte} (unknown : ∀ c : Command, c.code ≠ code) (s : State) (m : Master) (q : PortRecord) (tag : Byte)
    (payload : List Byte) :
    (s.setPort m q).goodFrame m code tag payload =
      s.setPort m (q.answeredUnknown (s.buildResponse m tag code (Reply.refuse .unknownCommand))) := by
  rw [State.goodFrame, Command.ofCode_eq_none unknown, State.port_setPort_self, PortRecord.answeredUnknown]
  cases q.response with
  | none => exact State.respond_setPort ..
  | some r => exact State.collide_setPort ..

/-- A command row at a port that has moved its bytes is its command there, once nothing is left to settle. -/
theorem exec_commandRow_setPort {s : State} (high : s.pins.resetN = .high) (quiet : Quiet s.settle) (c : Command) (m : Master) (tag : Byte)
    (payload : List Byte) (q : PortRecord) :
    exec (commandRow c m tag payload) (s.settle.setPort m q) = .next ((s.settle.setPort m q).command m tag c payload (meaningOf c)) := by
  have still_quiet : Quiet (s.settle.setPort m q) := by generalize s.settle = u at quiet; exact quiet
  have still_high : (s.settle.setPort m q).pins.resetN = .high := by rw [State.pins_setPort, State.pins_settle]; exact high
  rw [exec_commandRow, State.outside_of_high still_high, State.settle_of_quiet still_quiet]

/-! ### Reads -/

/-- What a read that sends `x` holds when `n` bytes have been sent (R178). -/
def PortRecord.readSent (q : PortRecord) (x : Sending) (n : Nat) : PortRecord :=
  { q with
    bytesSent := n, wire := wireBytes x.bytes n
    response := if x.holds = true ∧ x.bytes.length ≤ n then none else q.response }

/-- The bytes of a read move its port alone, and end it or let it go on. -/
theorem State.i2cSend_eq {s : State} {x : Sending} (sending : (s.port .c).sending = some x) (n : Nat) :
    s.i2cSend n = s.setPort .c
      { (s.port .c).readSent x (max n (s.port .c).bytesSent) with
        sending := some { x with holds := decide (x.holds = true ∧ max n (s.port .c).bytesSent < x.bytes.length) } } := by
  rw [State.i2cSend, State.sendBytes, PortRecord.sent_of_sending sending]
  rfl

theorem State.endTransfer_i2cSend {s : State} {x : Sending} (sending : (s.port .c).sending = some x) (n : Nat) :
    (s.i2cSend n).endTransfer .c = s.setPort .c { (s.port .c).readSent x (max n (s.port .c).bytesSent) with sending := none } := by
  rw [State.i2cSend_eq sending, State.endTransfer_setPort]

end Sys2Proof.Machine
end

section

open Sys2Proof Sys2Proof.Machine

/-- Settles O16. -/
theorem spiFrameStartFixesWhatIsSent : Obligations.SpiFrameStartFixesWhatIsSent := by
  refine ⟨fun s p high select => ?_, fun s p bytes bus => ?_, fun s p low bus => ?_⟩
  · obtain ⟨pending, idle⟩ := s.settle.fetched_spec (portMaster p)
    refine ⟨s.settle.fetched (portMaster p), pending, idle, congrArg Host.Outcome.next ?_⟩
    have begins : s.spiStart p = s.settle.spiBegin p := by simp [State.spiStart, select, State.inReset, high]
    rw [begins, State.spiBegin, State.beginTransfer, State.port_setSpi]
  · refine congrArg Host.Outcome.next ?_
    simp [State.spiEnd, bus, State.spiNoFrame, wireBytes]
  · refine congrArg Host.Outcome.next ?_
    simp [State.spiStart, bus, State.inReset, low]

/-- Settles O17: the class of the bytes is EMPTY below three and ABORTED below the length that the third gives. -/
theorem shortSpiFrameTakesNothing : Obligations.ShortSpiFrameTakesNothing := by
  intro s p bytes x high bus sending q sent
  rw [exec_spiFrameEnd high bus sending]
  refine ⟨fun short => ?_, fun three short => ?_⟩
  · rw [classifySpi_of_lt_three short, State.handleFrame, State.endTransfer_setPort]
    rfl
  · rw [(classify_of_incomplete three short).1, State.handleFrame, State.countAbort_setPort, State.endTransfer_setPort]
    rfl

/-- Settles O18. -/
theorem completeSpiFrameIsItsCommand : Obligations.CompleteSpiFrameIsItsCommand := by
  intro s p c tag payload extra x high quiet bus sending few q head bytes sent
  refine ⟨_, exec_commandRow_setPort high quiet c (portMaster p) tag payload sent, ?_⟩
  rw [exec_spiFrameEnd high bus sending, show bytes = frameBytes c.code tag payload (crc8 head) extra from rfl,
    (classify_frameBytes c.code tag (crc8 head) payload extra few).1, decide_eq_true (rfl : crc8 head = crc8 head), State.handleFrame,
    State.goodFrame, Command.ofCode_code]
  rfl

/-- Settles O19: the class of the bytes is COMPLETE, its CRC good or bad, and the port answers by its pending response. -/
theorem badCrcAndUnknownCodeAreAnswered : Obligations.BadCrcAndUnknownCodeAreAnswered := by
  intro s code tag crc payload extra high few head bytes up answer answered
  have answer_eq (m : Master) (status : Result) : answer m status = s.settle.buildResponse m tag code (Reply.refuse status) :=
    (State.buildResponse_eq s.settle m tag code (Reply.refuse status)).symm
  have by_pending {m : Master} {q : PortRecord} {ends : PortRecord → Prop} (bad : crc ≠ crc8 head → ends (q.answeredBadCrc (answer m .badCrc)))
      (unknown : crc = crc8 head → (∀ c : Command, c.code ≠ code) → ends (q.answeredUnknown (answer m .unknownCommand))) : answered m q ends := by
    refine ⟨fun wrong pending => ?_, fun wrong r pending => ?_, fun right no_code pending => ?_, fun right no_code r pending => ?_⟩
    · have done := bad wrong; rwa [PortRecord.answeredBadCrc, pending] at done
    · have done := bad wrong; rwa [PortRecord.answeredBadCrc, pending] at done
    · have done := unknown right no_code; rwa [PortRecord.answeredUnknown, pending] at done
    · have done := unknown right no_code; rwa [PortRecord.answeredUnknown, pending] at done
  clear_value answered
  obtain ⟨spi, i2c⟩ := classify_frameBytes code tag crc payload extra few
  refine ⟨fun write => ?_, fun p x bus sending => ?_⟩
  · have row := exec_i2cWriteEnd high write (frameBytes code tag payload crc extra)
    rw [i2c] at row
    apply by_pending
    · intro wrong
      rw [decide_eq_false (Ne.symm wrong), State.handleFrame, State.badFrame_setPort, ← answer_eq] at row
      exact row
    · intro right no_code
      rw [decide_eq_true right.symm, State.handleFrame, State.goodFrame_setPort no_code, ← answer_eq] at row
      exact row
  · have row := exec_spiFrameEnd high bus sending (frameBytes code tag payload crc extra)
    rw [spi] at row
    intro q
    apply by_pending
    · intro wrong
      rw [decide_eq_false (Ne.symm wrong), State.handleFrame, State.badFrame_setPort, ← answer_eq, State.endTransfer_setPort,
        PortRecord.endSending_answeredBadCrc] at row
      exact row
    · intro right no_code
      rw [decide_eq_true right.symm, State.handleFrame, State.goodFrame_setPort no_code, ← answer_eq, State.endTransfer_setPort,
        PortRecord.endSending_answeredUnknown] at row
      exact row

/-- Settles O20. -/
theorem i2cAddressSelectsWriteOrRead : Obligations.I2cAddressSelectsWriteOrRead := by
  have taken {s : State} (high : s.pins.resetN = .high) (a : BitVec 7) (read : Bool) : exec (.i2cAddress a read) s = .next (s.settle.i2cStart a read) :=
    congrArg Host.Outcome.next (State.outside_of_high high _)
  refine ⟨fun s high => ?_, fun s high => ?_, fun s a read high other => ?_⟩
  · rw [taken high, State.i2cStart, if_pos rfl]
    rfl
  · obtain ⟨pending, idle⟩ := s.settle.fetched_spec .c
    refine ⟨s.settle.fetched .c, pending, idle, ?_⟩
    rw [taken high, State.i2cStart, if_pos rfl]
    rfl
  · rw [taken high, State.i2cStart, if_neg other]
    rfl

/-- Settles O21. -/
theorem i2cWriteEndClassesTheBytes : Obligations.I2cWriteEndClassesTheBytes := by
  intro s bytes high write q
  refine ⟨fun empty => ?_, fun short => ?_, fun c tag payload extra quiet few frame => ?_⟩
  · rw [exec_i2cWriteEnd high write, show classifyI2c bytes = .empty by rw [empty]; rfl]
    rfl
  · have aborted : classifyI2c bytes = .aborted := by
      rcases short with one | two | ⟨three, short⟩
      · exact classifyI2c_of_short (.inl one)
      · exact classifyI2c_of_short (.inr two)
      · exact (classify_of_incomplete three short).2
    rw [exec_i2cWriteEnd high write, aborted, State.handleFrame, State.countAbort_setPort]
    rfl
  · have complete : classifyI2c bytes = .complete c.code tag payload true := by
      rw [frame]
      exact (classify_frameBytes c.code tag _ payload extra few).2.trans (by rw [decide_eq_true rfl])
    refine ⟨_, exec_commandRow_setPort high quiet c .c tag payload q, ?_⟩
    rw [exec_i2cWriteEnd high write, complete, State.handleFrame, State.goodFrame, Command.ofCode_code]

/-- Settles O22. -/
theorem i2cReadsStallsAndStops : Obligations.I2cReadsStallsAndStops := by
  have event {s : State} (high : s.pins.resetN = .high) (f : State → State) :
      Host.Outcome.next (s.unlessReset f) = Host.Outcome.next (φ := Fault) (ρ := Refusal) (f s) := congrArg Host.Outcome.next (State.unlessReset_of_high high f)
  have nothing {s : State} {f : State → State} (same : f s = s) : Host.Outcome.next (s.unlessReset f) = Host.Outcome.next (φ := Fault) (ρ := Refusal) s :=
    congrArg Host.Outcome.next (State.unlessReset_of_same same)
  refine ⟨?_, fun s n high write => ?_, fun s n elsewhere => nothing ?_, fun s high unaddressed => ?_, fun s idle => nothing ?_⟩
  · intro s x n high read sending q k sent
    refine ⟨fun before => ?_, ?_, ?_⟩
    · refine (event high _).trans ?_
      have all : max x.bytes.length q.bytesSent = x.bytes.length := max_eq_left before
      rw [State.i2cDelivered, read, sending, sendingBytes]
      simp only
      rw [State.i2cSend_eq sending, all, decide_eq_false (by simp)]
      rfl
    · refine (event high _).trans ?_
      rw [State.i2cReadFinish, read]
      simp only
      rw [State.endTransfer_i2cSend sending]
      rfl
    · refine (event high _).trans ?_
      rw [State.stall, read]
      simp only
      rw [State.endTransfer_i2cSend sending]
      rfl
  · refine (event high _).trans ?_
    rw [State.stall, write]
    rfl
  · rcases elsewhere with idle | unaddressed
    · rw [State.stall, idle]
    · rw [State.stall, unaddressed]
  · refine (event high _).trans ?_
    rw [State.stopUnaddressed, unaddressed]
    rfl
  · rw [State.stopUnaddressed, idle]

end

section
/-! PROOFS. The sessions (O24, O25, O27). -/

namespace Sys2Proof.Machine

theorem leaseTicks_eq {unit : BitVec 2} {ms : BitVec 16} {period : Word}
    (h : period.toNat = ms.toNat * (if unit = 0 then 2000 else if unit = 1 then 1000 else if unit = 2 then 100 else 10)) :
    leaseTicks unit ms = period := by
  have ticks : ticksPerMs unit = if unit = 0 then 2000 else if unit = 1 then 1000 else if unit = 2 then 100 else 10 := by
    clear h; revert unit; decide
  rw [leaseTicks, ticks, ← h, BitVec.ofNat_toNat, BitVec.setWidth_eq]

/-- OPEN of a lease in its range (R131). -/
theorem openSession_of_range {m : Master} {ms : BitVec 16} {t : State} (low : 10 ≤ ms.toNat) (high : ms.toNat ≤ 60000) :
    openSession m (bytes16 ms) t = t.openLease m (leaseTicks t.tickUnit ms) := by
  have range : ¬ (ms < 10#16 ∨ 60000#16 < ms) := by
    simp only [BitVec.lt_def, not_or, not_lt]
    exact ⟨low, high⟩
  rw [openSession, u16At_bytes16, if_neg (by simpa using range)]

theorem exec_openSession {s t : State} {m : Master} (taken : TakenIn s m t) (tag : Byte) (ms : BitVec 16) {u : State} {r : Reply}
    (does : openSession m (bytes16 ms) t = (u, r)) : exec (.openSession m tag (bytes16 ms)) s = .next (u.respond m tag 0x10 r) := by
  have served := exec_of_served taken (c := .openSession) (p := bytes16 ms) (commonRefusal_of_any rfl rfl rfl m) tag
  rw [show meaningOf .openSession m (bytes16 ms) t = (u, r) from does] at served
  exact served

theorem State.isActive_of_session {t : State} {m : Master} {period deadline : Word} (active : t.session m = .active period deadline) :
    t.isActive m = true := by rw [State.isActive, active]; rfl

end Sys2Proof.Machine
end

section

open Sys2Proof Sys2Proof.Machine

/-- Settles O24: the fields of the response are the codes of section 11.2, written out. -/
theorem statusAnswersTheStanding : Obligations.StatusAnswersTheStanding := by
  intro s t m tag taken
  refine (exec_of_served taken (c := .status) (p := []) (commonRefusal_of_any rfl rfl rfl m) tag).trans ?_
  have stalls : t.stallReported m = if m = .c then t.stallTimeouts else 0 := by cases m <;> rfl
  have port : ownerCode t.configPort = match t.configPort with | none => 0 | some .a => 1 | some .b => 2 | some .c => 3 := by
    rcases t.configPort with _ | x
    · rfl
    · cases x <;> rfl
  show Host.Outcome.next (t.respond m tag 0x02 ⟨.ok, t.statusPayload m⟩) = _
  rw [State.statusPayload, stalls, port]
  cases t.session m <;> rfl

/-- Settles O25: OPEN by the session it finds; RENEW with the period in force. -/
theorem openAndRenewSetTheLease : Obligations.OpenAndRenewSetTheLease := by
  refine ⟨?_, fun s t m tag period deadline taken active => ?_⟩
  · intro s t m tag ms period taken low high ticks lease answer
    have opens : openSession m (bytes16 ms) t = t.openLease m period := by rw [openSession_of_range low high, leaseTicks_eq ticks]
    refine ⟨fun closed => exec_openSession taken tag ms ?_, fun q d active => exec_openSession taken tag ms ?_,
      fun lapsed => exec_openSession taken tag ms ?_⟩
    · rw [opens, State.openLease, closed]; rfl
    · rw [opens, State.openLease, active]; rfl
    · rw [opens, State.openLease, lapsed]; rfl
  · have served := exec_of_served taken (c := .renew) (p := [])
      (commonRefusal_of_active (State.isActive_of_session active) rfl fun k zero => Option.some.inj zero) tag
    have renews : meaningOf .renew m [] t = (t.startLease m period, ⟨.ok, bytes32 period ++ bytes32 (t.count + period)⟩) := by
      show renew m [] t = _
      rw [renew, active]
    rw [renews] at served
    exact served

/-- Settles O27: CLOSE and LAPSE are the purge and what comes after it. -/
theorem closeAndLapsePurgeTheMaster : Obligations.CloseAndLapsePurgeTheMaster := by
  refine ⟨fun s t m tag taken active => ?_, fun s m period high active => ?_⟩
  · exact exec_of_served taken (c := .close) (p := []) (commonRefusal_of_active active rfl fun k zero => Option.some.inj zero) tag
  · have due : s.lapseDue m = true := by rw [State.lapseDue, active]; exact decide_eq_true rfl
    have row : exec (.lapse m) s = .next (s.lapseNow m) := by
      refine congrArg Host.Outcome.next ((State.unlessReset_of_high high _).trans ?_)
      rw [State.lapse, if_pos due]
    refine ⟨_, row, s.lapseNow_frame m, ?_, fun x other => ?_⟩
    · rw [s.noticeQueue_lapseNow (State.isActive_of_session active) m, if_pos rfl]
      rfl
    · rw [s.noticeQueue_lapseNow (State.isActive_of_session active) x, if_neg other]
      rfl

end

section
/-! PROOFS. The line commands and the ranges of the fields (O28 to O31). -/

namespace Sys2Proof.Machine

/-! ### Served commands and what they do -/

/-- A command that is served and whose block does `(u, r)` leaves `u` with the answer `r`. -/
theorem exec_of_meaning {s t u : State} {m : Master} {c : Command} {p : List Byte} {r : Reply} (taken : TakenIn s m t)
    (served : t.commonRefusal m c p.length = none) (does : meaningOf c m p t = (u, r)) (tag : Byte) :
    exec (commandRow c m tag p) s = .next (u.respond m tag c.code r) := by
  rw [exec_of_served taken served, does]

/-- The same for a command that an ACTIVE master may give from any port. -/
theorem exec_of_active {s t u : State} {m : Master} {c : Command} {p : List Byte} {r : Reply} (taken : TakenIn s m t)
    (active : t.isActive m = true) (config : isConfigCommand t.configPort.isSome c = false) (length : fixedLength c = some p.length)
    (does : meaningOf c m p t = (u, r)) (tag : Byte) : exec (commandRow c m tag p) s = .next (u.respond m tag c.code r) :=
  exec_of_meaning taken (commonRefusal_of_active active config fun _ fixed => Option.some.inj (length.symm.trans fixed)) does tag

/-- The same for a configuration command of the configuring port. -/
theorem exec_of_configPort {s t u : State} {m : Master} {c : Command} {p : List Byte} {r : Reply} (taken : TakenIn s m t)
    (port : t.configPort = some m) (session : t.session m ≠ .lapsed) (config : isConfigCommand true c = true)
    (length : fixedLength c = some p.length) (does : meaningOf c m p t = (u, r)) (tag : Byte) :
    exec (commandRow c m tag p) s = .next (u.respond m tag c.code r) :=
  exec_of_meaning taken (commonRefusal_of_configPort config port session length) does tag

/-! ### CLAIM -/

theorem claim_eq {m : Master} {l : Fin 16} {wait : Byte} (flag : wait = 0 ∨ wait = 1) (t : State) :
    claim m [countByte l.val, wait] t = t.claimLine m l (decide (wait = 1)) := by
  have range : ¬ (15#8 < countByte l.val ∨ 1#8 < wait) := by
    rintro (line | flag_high)
    · exact countByte_line_le l line
    · rcases flag with rfl | rfl
      · exact absurd flag_high (by decide)
      · exact absurd flag_high (by decide)
  have line : lineOfByte (byteAt [countByte l.val, wait] 0) = l := lineOfByte_countByte l
  rw [claim, if_neg (by simpa [byteAt] using range), line]
  rfl

theorem countByte_positionIn (waits : List Master) (m : Master) :
    countByte (positionIn waits m) = if m ∈ waits then countByte (waits.idxOf m + 1) else 0 := by
  unfold positionIn
  split <;> rfl

theorem positionIn_append_self {waits : List Master} {m : Master} (fresh : m ∉ waits) : positionIn (waits ++ [m]) m = waits.length + 1 := by
  rw [positionIn, if_pos (by simp), List.idxOf_append_of_notMem fresh]
  simp

/-! ### RELEASE -/

theorem release_eq (m : Master) (l : Fin 16) (t : State) : release m [countByte l.val] t = t.releaseLine m l := by
  have line : lineOfByte (byteAt [countByte l.val] 0) = l := lineOfByte_countByte l
  rw [release, if_neg (by exact countByte_line_le l), line]

/-- The entries that a RELEASE or a CANCEL_LINE leaves are those of another poster or for another line. -/
theorem State.purgeLine_eq (t : State) (m : Master) (l : Fin 16) :
    t.purgeLine m l =
      { t with timed := t.timed.filter fun e => decide (¬ (e.core.poster = m ∧ e.core.line = l))
               armed := t.armed.filter fun e => decide (¬ (e.core.poster = m ∧ e.core.line = l)) } := by
  simp [State.purgeLine]

/-! ### QUERY_LINE -/

theorem trainByte_eq (r : TrainRecord) :
    trainByte r = r.fraction.setWidth 8 ||| (if r.rest = .high then 16 else 0) ||| (if r.endNotice then 32 else 0) := by
  unfold trainByte
  cases r.rest <;> rfl

theorem lineStatusByte_eq (r : LineRecord) (g : Generator) :
    lineStatusByte r g = (if r.mode = .train then 1 else 0) ||| (if r.level = .high then 2 else 0) ||| (if r.safe = .high then 4 else 0) |||
      (match g.state with | .idle => 0 | .running => 8 | .stopping => 16) ||| (if g.staged = none then 0 else 32) := by
  have level (v : Level) : levelCode v <<< 1 = if v = .high then 2 else 0 := by cases v <;> decide
  have safe (v : Level) : levelCode v <<< 2 = if v = .high then 4 else 0 := by cases v <;> decide
  have state (x : GenState) : genStateCode x <<< 3 = match x with | .idle => 0 | .running => 8 | .stopping => 16 := by cases x <;> decide
  have staged : (if g.staged.isSome then 0x20#8 else 0#8) = if g.staged = none then 0 else 32 := by cases g.staged <;> rfl
  rw [lineStatusByte, level, safe, state, staged]
  cases r.mode <;> rfl

end Sys2Proof.Machine
end

section

open Sys2Proof Sys2Proof.Machine

/-- Settles O28. -/
theorem claimFollowsItsTable : Obligations.ClaimFollowsItsTable := by
  intro s t m tag wait l taken active flag row waits
  have answers {u : State} {r : Reply} (does : t.claimLine m l (decide (wait = 1)) = (u, r)) : row = .next (u.respond m tag 0x20 r) :=
    exec_of_active taken active (c := .claim) rfl rfl ((claim_eq flag t).trans does) tag
  refine ⟨fun unowned => answers ?_, fun owned => answers ?_, fun o other owned => ⟨fun absent noWait => answers ?_, fun present noWait => answers ?_,
    fun absent waiting => answers ?_, fun present waiting => answers ?_⟩⟩
  · simp [State.claimLine, unowned, State.claimPayload, countByte_positionIn, waits, ownerCode]
  · simp [State.claimLine, owned, State.claimPayload, countByte_positionIn, waits, ownerCode]
  · simp only [waits] at absent
    simp [State.claimLine, owned, other, noWait, absent, State.claimPayload, countByte_positionIn, ownerCode]
  · simp only [waits] at present
    simp [State.claimLine, owned, other, noWait, present, State.claimPayload, countByte_positionIn, waits, ownerCode]
  · simp only [waits] at absent
    simp [State.claimLine, owned, other, waiting, absent, State.claimPayload, positionIn_append_self absent, waits, ownerCode]
  · simp only [waits] at present
    simp [State.claimLine, owned, other, waiting, present, State.claimPayload, countByte_positionIn, waits, ownerCode]

/-- Settles O29: a release by the owner is its purge of the line and then the return. -/
theorem releaseReturnsTheLineOrWithdrawsTheWait : Obligations.ReleaseReturnsTheLineOrWithdrawsTheWait := by
  have answers {s t u : State} {m : Master} {tag : Byte} {l : Fin 16} {r : Reply} (taken : TakenIn s m t) (active : t.isActive m = true)
      (does : t.releaseLine m l = (u, r)) : exec (.release m tag [countByte l.val]) s = .next (u.respond m tag 0x21 r) :=
    exec_of_active taken active (c := .release) rfl rfl ((release_eq m l t).trans does) tag
  refine ⟨?_, fun s t m tag l taken active other => ⟨fun waits => answers taken active ?_, fun absent => answers taken active ?_⟩⟩
  · intro s t m tag l taken active owned keep purged removed rested
    have line : purged.line l = t.line l := rfl
    have released : t.releaseLine m l = (purged.returnLine l .released,
        ⟨.ok, [countByte (t.poolUsed - (purged.returnLine l .released).poolUsed), ownerCode ((purged.returnLine l .released).line l).owner]⟩) := by
      rw [State.releaseLine, if_pos owned, State.releaseOwned, State.purgeLine_eq]
    have returned : purged.returnLine l .released = (rested (t.line l).waits.head? (t.line l).waits.tail).notifyTo
        { kind := .granted, ticket := 0, line := some l, detail := 1, timestamp := t.count } (t.line l).waits.head? := State.returnLine_eq ..
    have owner (o : Option Master) (ws : List Master) : ((rested o ws).line l).owner = o := congrArg LineRecord.owner (State.line_setLine_self ..)
    have pool (u : State) (n : Notice) (o : Option Master) : (u.notifyTo n o).poolUsed = u.poolUsed := by rw [State.notifyTo_frame]; rfl
    rw [returned, pool, State.line_notifyTo, owner] at released
    refine ⟨fun alone => answers taken active ?_, fun x xs waiting => answers taken active ?_⟩
    · rw [released, alone]
      rfl
    · rw [released, waiting]
      rfl
  · rw [State.releaseLine, if_neg other, if_pos waits, State.withdrawWait]
    simp
  · rw [State.releaseLine, if_neg other, if_neg absent]
    rfl

/-- Settles O30. -/
theorem queryLineDescribesTheLine : Obligations.QueryLineDescribesTheLine := by
  intro s t m tag l taken r g c
  have line : lineOfByte (byteAt [countByte l.val] 0) = l := lineOfByte_countByte l
  have describes : meaningOf .queryLine m [countByte l.val] t = (t, ⟨.ok, t.lineDescription l⟩) := by
    show queryLine m [countByte l.val] t = _
    rw [queryLine, if_neg (by exact countByte_line_le l), line]
  refine (exec_of_meaning taken (c := .queryLine) (commonRefusal_of_any rfl rfl rfl m) describes tag).trans ?_
  rw [State.lineDescription, lineStatusByte_eq, TrainRecord.bytes, trainByte_eq]
  simp only [waitByte, State.entriesFor, List.append_assoc]
  rfl

/-- Settles O31: each block tests the ranges of its fields first, once the command is served. -/
theorem outOfRangeFieldIsRefused : Obligations.OutOfRangeFieldIsRefused := by
  intro s t m tag a b c taken refused
  have byLine : 15 < a.toNat → 15#8 < a := fun high => high
  refine ⟨fun ms outside => ?_, fun active outside => ?_, fun active high => ⟨?_, ?_⟩, fun high => ?_, fun active outside => ?_, fun active outside => ?_,
    fun outside => ?_, fun port session => ⟨fun outside => ?_, fun outside => ?_, fun outside => ?_⟩⟩
  · refine exec_of_meaning taken (c := .openSession) (commonRefusal_of_any rfl rfl rfl m) (?_ : openSession m (bytes16 ms) t = (t, Reply.refuse .range)) tag
    have range : ms < 10#16 ∨ 60000#16 < ms := outside
    rw [openSession, u16At_bytes16, if_pos (by simpa using range)]
  · refine exec_of_active taken (c := .claim) active rfl rfl (?_ : claim m [a, b] t = (t, Reply.refuse .range)) tag
    have range : 15#8 < a ∨ 1#8 < b := outside
    rw [claim, if_pos (by simpa [byteAt] using range)]
  · exact exec_of_active taken (c := .release) (p := [a]) active rfl rfl (if_pos (byLine high) : release m [a] t = (t, Reply.refuse .range)) tag
  · exact exec_of_active taken (c := .cancelLine) (p := [a]) active rfl rfl (if_pos (byLine high) : cancelLine m [a] t = (t, Reply.refuse .range)) tag
  · exact exec_of_meaning taken (c := .queryLine) (p := [a]) (commonRefusal_of_any rfl rfl rfl m) (if_pos (byLine high) : queryLine m [a] t = (t, Reply.refuse .range)) tag
  · refine exec_of_active taken (c := .subscribe) active rfl rfl (?_ : subscribe m [a, b] t = (t, Reply.refuse .range)) tag
    have range : b = 0 ∨ 16#8 < b := outside
    rw [subscribe, if_pos (by simpa [byteAt] using range)]
  · refine exec_of_active taken (c := .readCaptures) active rfl rfl (?_ : readCaptures m [a] t = (t, Reply.refuse .range)) tag
    have range : a = 0 ∨ 5#8 < a := outside
    rw [readCaptures, if_pos (by simpa [byteAt] using range)]
  · refine exec_of_meaning taken (c := .readNotices) (commonRefusal_of_any rfl rfl rfl m) (?_ : readNotices m [a] t = (t, Reply.refuse .range)) tag
    have range : a = 0 ∨ 3#8 < a := outside
    rw [readNotices, if_pos (by simpa [byteAt] using range)]
  · refine exec_of_configPort taken (c := .setSafe) port session rfl rfl (?_ : setSafe m [a, b] t = (t, Reply.refuse .range)) tag
    have range : 15#8 < a ∨ 1#8 < b := outside
    rw [setSafe, if_pos (by simpa [byteAt] using range)]
  · refine exec_of_configPort taken (c := .setQuota) port session rfl rfl (?_ : setQuota m [a, b] t = (t, Reply.refuse .range)) tag
    rw [setQuota]
    split
    · rfl
    · next x named =>
      have known : ¬ (a = 0 ∨ 3 < a.toNat) := by
        rintro (zero | high)
        · subst zero; cases named
        · have unknown : masterOfCode a = none := by
            unfold masterOfCode
            rw [if_neg, if_neg, if_neg]
            all_goals rintro rfl; exact absurd high (by decide)
          exact absurd (unknown.symm.trans named) (by simp)
      have range : b = 0 ∨ 64#8 < b := by tauto
      rw [if_pos (by simpa [byteAt] using range)]
  · refine exec_of_configPort taken (c := .setInput) port session rfl rfl (?_ : setInput m [a, b, c] t = (t, Reply.refuse .range)) tag
    have range : 7#8 < a ∨ 3#8 < b := outside
    rw [setInput, if_pos (by simpa [byteAt] using range)]

end

section
/-! PROOFS. Actions, period ends and executions (O32, O33, O42, O43, O47). -/

namespace Sys2Proof.Machine

/-! ### Actions and periods -/

theorem opposite_eq_ite (v : Level) : opposite v = if v = .high then .low else .high := by cases v <;> rfl

theorem Generator.length_newPeriod (g : Generator) (c : Word) :
    (g.newPeriod c).periodLength =
      if g.accumulator.toNat + g.current.record.fraction.toNat < 16 then g.current.record.period.toNat else g.current.record.period.toNat + 1 := by
  unfold newPeriod carries
  by_cases long : 16 ≤ g.accumulator.toNat + g.current.record.fraction.toNat
  · simp [long, Nat.not_lt.mpr long]
  · simp [long, Nat.not_le.mp long]

/-- A generator at the begin of a period of its record (R90, R91, R93). -/
theorem State.beginPeriod_eq (s : State) (l : Fin 16) (g : Generator) :
    s.beginPeriod l g =
      (s.setGen l { g with
          accumulator := g.accumulator + g.current.record.fraction, periodStart := s.count
          periodLength := if g.accumulator.toNat + g.current.record.fraction.toNat < 16 then g.current.record.period.toNat
            else g.current.record.period.toNat + 1 }).setLine l
        { s.line l with mode := .train, level := if g.current.record.highTime = 0 then .low else .high } := by
  rw [State.beginPeriod, ← g.length_newPeriod s.count]
  rfl

/-- The first period of a train has P ticks: the accumulator starts at 0 (R95). -/
theorem Generator.newPeriod_of_idle (j : TrainJob) (c : Word) :
    ({ Generator.idle with state := .running, current := j, remaining := j.record.pulses } : Generator).newPeriod c =
      { state := .running, current := j, staged := none, accumulator := j.record.fraction, remaining := j.record.pulses, periodStart := c
        periodLength := j.record.period.toNat } := by
  have short : ({ Generator.idle with state := .running, current := j, remaining := j.record.pulses } : Generator).carries = false := by
    have small := j.record.fraction.isLt
    simpa [carries, Generator.idle] using small
  rw [newPeriod, short]
  simp [Generator.idle]

/-- The end of a train: the line at rest at the rest level, and TRAIN_END to its owner when it was asked for (R100, R101). -/
theorem State.endTrain_eq (s : State) (l : Fin 16) (cause : TrainEndCause) :
    s.endTrain l cause =
      (let c := (s.gen l).current
       let rested := s.rest l c.record.rest
       match c.record.endNotice, (s.line l).owner with
       | true, some m => rested.notify m { kind := .trainEnd, ticket := c.source, line := some l, detail := trainEndCauseCode cause, timestamp := s.count }
       | _, _ => rested) := by
  have owner : ((s.rest l (s.gen l).current.record.rest).line l).owner = (s.line l).owner := by rw [State.line_rest, if_pos rfl]
  unfold State.endTrain State.notifyOwner
  simp only [owner]
  cases notice : (s.gen l).current.record.endNotice with
  | false => rw [if_neg (by decide)]
  | true =>
    rw [if_pos rfl]
    cases (s.line l).owner <;> rfl

/-- A line that is LOW already is left by the end of its high part. -/
theorem State.setLine_line (s : State) (l : Fin 16) : s.setLine l (s.line l) = s := by
  have same : s.lines.set l.val (s.line l) l.isLt = s.lines := Vector.set_getElem_self l.isLt
  rw [State.setLine, same]

theorem exec_periodEnd {s : State} {l : Fin 16} (high : s.pins.resetN = .high) (busy : (s.gen l).state ≠ .idle)
    (now : s.count = (s.gen l).periodStart + BitVec.ofNat 32 (s.gen l).periodLength) :
    exec (.periodEnd l) s = .next (match (s.gen l).state with | .stopping => s.endTrain l .stopped | .running => s.runningPeriodEnd l | .idle => s) := by
  have due : s.periodEndDue l = true := by simp [State.periodEndDue, busy, now.symm]
  refine congrArg Host.Outcome.next ((State.unlessReset_of_high high _).trans ?_)
  rw [State.periodEnd, if_pos due] <;> rfl

/-- At the end of a high part that counts, only a level that is LOW already keeps it from being due (R90). -/
theorem State.highPartEndDue_of_now {s : State} {l : Fin 16} (busy : (s.gen l).state ≠ .idle) (positive : 0 < (s.gen l).current.record.highTime.toNat)
    (inside : (s.gen l).current.record.highTime.toNat < (s.gen l).periodLength)
    (now : (s.gen l).periodStart + (s.gen l).current.record.highTime.setWidth 32 = s.count) : s.highPartEndDue l = decide ((s.line l).level = .high) := by
  have some_high : (s.gen l).current.record.highTime ≠ 0 := fun zero => by rw [zero] at positive; exact absurd positive (by decide)
  rw [State.highPartEndDue, decide_eq_true busy, decide_eq_true some_high, decide_eq_true inside, decide_eq_true now]
  rfl

/-! ### Counts in one byte -/

theorem satByte_eq (n : Nat) : satByte n = if 255 < n then 255 else BitVec.ofNat 8 n := by
  unfold satByte
  split
  · next large => rw [min_eq_right (by omega)]; rfl
  · next small => rw [min_eq_left (by omega)]

theorem detailAfter_eq (r : Option RepeatPart) :
    detailAfter r = match r with
      | none => 0
      | some r => if r.remaining = 0 then 255 else if 255 < r.remaining.toNat - 1 then 255 else BitVec.ofNat 8 (r.remaining.toNat - 1) := by
  cases r with
  | none => rfl
  | some r => rw [detailAfter, satByte_eq]

theorem detailHad_eq (r : Option RepeatPart) :
    detailHad r = match r with
      | none => 1
      | some r => if r.remaining = 0 ∨ 255 < r.remaining.toNat then 255 else BitVec.ofNat 8 r.remaining.toNat := by
  cases r with
  | none => rfl
  | some r =>
    rw [detailHad, satByte_eq]
    simp only [ite_or]

/-! ### Executions -/

/-- The guard stops the entry: it has one, and the input's filtered level is not the level it asks for (R26, R32). -/
def State.guardStops (s : State) (e : EntryCore) : Prop := ∃ g, e.guardPart = some g ∧ (s.input g.input).filtered ≠ g.level

theorem State.decideExecution_skipped {s : State} {e : EntryCore} (stops : s.guardStops e) : s.decideExecution e = .skipped := by
  obtain ⟨g, part, wrong⟩ := stops
  simp [State.decideExecution, State.guardPasses, part, wrong]

theorem State.guardPasses_of_not_guardStops {s : State} {e : EntryCore} (passes : ¬ s.guardStops e) : s.guardPasses e.guardPart = true := by
  unfold State.guardPasses
  split
  · rfl
  · next g part => exact decide_eq_true (by_contra fun wrong => passes ⟨g, part, wrong⟩)

theorem State.decideExecution_of_not_guardStops {s : State} {e : EntryCore} (passes : ¬ s.guardStops e) :
    s.decideExecution e = if s.trip.state = .tripped then .suppressed else .executed := by
  rw [State.decideExecution, if_pos (State.guardPasses_of_not_guardStops passes)]

/-- What the guard and the trip state decide is the same in a state that an execution has made. -/
theorem State.decideExecution_of_maskExec {s t : State} (same : t.maskExec = s.maskExec) (e : EntryCore) : t.decideExecution e = s.decideExecution e := by
  have inputs := inputs_of_maskExec same
  have trip := trip_of_maskExec same
  unfold State.decideExecution State.guardPasses State.input
  rw [inputs, trip]

/-- The report of an execution, from a state with the count of `s`. -/
theorem State.reportExecution_eq {s u : State} (same : u.maskExec = s.maskExec) (e : EntryCore) (x : Execution) :
    u.reportExecution e x =
      if e.notify = true then
        u.notify e.poster
          { kind := executionNotice x, ticket := e.ticket, line := some e.line, detail := detailAfter e.repeatPart, timestamp := s.count }
      else u := by
  rw [State.reportExecution, entryNotice, count_of_maskExec same]

/-- The repeat step of an entry that does not go on (R27, R35). -/
theorem State.repeatFrom_of_last (s : State) {e : EntryCore} (base : Word) (last : e.repeatPart = none ∨ ∃ r, e.repeatPart = some r ∧ r.remaining = 1) :
    s.repeatFrom e base = s := by
  rcases last with none | ⟨r, part, one⟩
  · rw [State.repeatFrom, none]
  · rw [State.repeatFrom, part]
    simp only
    rw [r.afterExecution_eq, if_pos one]

/-- The repeat step of an entry that goes on (R27, R35). -/
theorem State.repeatFrom_of_more (s : State) {e : EntryCore} (base : Word) {r : RepeatPart} (part : e.repeatPart = some r) (more : r.remaining ≠ 1) :
    s.repeatFrom e base =
      { s with timed := insertByDue s.count
                 ⟨{ e with repeatPart := some ⟨r.interval, if r.remaining = 0 then 0 else r.remaining - 1⟩ }, base + r.interval.setWidth 32⟩ s.timed } := by
  rw [State.repeatFrom, part]
  simp only
  rw [r.afterExecution_eq, if_neg more]
  rfl

end Sys2Proof.Machine
end

section

open Sys2Proof Sys2Proof.Machine

/-- Settles O32. -/
theorem actionsActOnTheirLine : Obligations.ActionsActOnTheirLine := by
  intro s l tk r g job static
  refine ⟨rfl, rfl, ?_, fun idle => ?_, fun busy => ?_, fun running => ?_, fun other => ?_⟩
  · rw [← opposite_eq_ite]
    rfl
  · rw [State.applyAction, State.trainAction, idle]
    simp only
    rw [State.startTrain, State.beginPeriod, Generator.newPeriod_of_idle]
    rfl
  · rw [State.applyAction, State.trainAction]
    cases state : (s.gen l).state with
    | idle => exact absurd state busy
    | running => simp only [g, ← state]; rfl
    | stopping => rfl
  · rw [State.applyAction, State.trainStop, running]
  · rw [State.applyAction, State.trainStop]
    split
    · next running => exact absurd running other
    · rfl
    · rfl

/-- Settles O33: the period end by the state of the generator, its staged record and the pulses left. -/
theorem periodAndHighPartEndsFollowTheirTable : Obligations.PeriodAndHighPartEndsFollowTheirTable := by
  refine ⟨?_, ?_⟩
  · intro s l high g c now begins rested ended
    refine ⟨fun stopping => ?_, fun running => ?_⟩
    · rw [exec_periodEnd high (by rw [stopping]; decide) now, stopping]
      simp only
      rw [State.endTrain_eq]
      rfl
    · have row : exec (.periodEnd l) s = .next (s.runningPeriodEnd l) := by
        rw [exec_periodEnd high (by rw [running]; decide) now, running]
      rw [row, State.runningPeriodEnd]
      refine ⟨fun j staged => ?_, fun unstaged => ⟨fun endless => ?_, fun many => ?_, fun last => ?_⟩⟩
      · rw [staged]
        simp only
        rw [State.loadStaged, State.beginPeriod_eq]
      · rw [unstaged]
        have same : s.gen l = { g with current := c, staged := none, remaining := 0 } := by rw [← unstaged, ← endless]
        simp only
        rw [if_pos endless, State.beginPeriod_eq, same]
      · have some_left : g.remaining ≠ 0 := fun zero => by rw [zero] at many; exact absurd many (by decide)
        have not_last : g.remaining ≠ 1 := fun one => by rw [one] at many; exact absurd many (by decide)
        have same : s.gen l = { g with current := c, staged := none } := by rw [← unstaged]
        rw [unstaged]
        simp only
        rw [if_neg some_left, if_neg not_last, State.beginPeriod_eq, same]
      · have some_left : g.remaining ≠ 0 := by rw [last]; decide
        rw [unstaged]
        simp only
        rw [if_neg some_left, if_pos last, State.endTrain_eq]
        rfl
  · intro s l high g busy positive inside now
    refine congrArg Host.Outcome.next ((State.unlessReset_of_high high _).trans ?_)
    have due := State.highPartEndDue_of_now busy positive inside now.symm
    rw [State.highPartEnd, due]
    cases level : (s.line l).level with
    | high => rfl
    | low =>
      have same : { s.line l with level := .low } = s.line l := by rw [← level]
      rw [same, State.setLine_line]
      rfl

/-- Settles O42: an execution by its owner, its guard and the trip state, then the repeat step. -/
theorem executionGoesThroughItsSteps : Obligations.ExecutionGoesThroughItsSteps := by
  refine ⟨?_, fun s e base => ⟨fun none => s.repeatFrom_of_last base (.inl none), fun r part => ⟨fun one => s.repeatFrom_of_last base (.inr ⟨r, part, one⟩),
    fun more => s.repeatFrom_of_more base part more⟩⟩⟩
  intro s e late told s₁ remaining had reports guarded
  have lateReported : s.reportLate e late = s₁ := by
    cases late with
    | none => rfl
    | some due => simp only [State.reportLate, s₁, told, entryNotice, satByte_eq, lateness]
  have mask : s₁.maskExec = s.maskExec := by rw [← lateReported]; exact s.maskExec_reportLate e late
  have remaining_eq : detailAfter e.repeatPart = remaining := detailAfter_eq _
  have reported {u : State} (same : u.maskExec = s.maskExec) (x : Execution) : u.reportExecution e x = reports u (executionNotice x) := by
    rw [State.reportExecution_eq same, remaining_eq]
  have decision : s₁.decideExecution e = s.decideExecution e := State.decideExecution_of_maskExec mask e
  refine ⟨fun other => ?_, fun owned => ?_⟩
  · rw [State.executeEntry, if_neg other, detailHad_eq]
    rfl
  · have steps : s.executeEntry e late = ((s₁.runAction e).reportExecution e (s.decideExecution e)).repeatFrom e s.count := by
      rw [State.executeEntry, if_pos owned]
      simp only
      rw [lateReported, decision]
    rw [steps, State.runAction, decision]
    refine ⟨fun stops => ?_, fun passes tripped => ?_, fun passes normal => ?_⟩
    · rw [State.decideExecution_skipped stops]
      simp only
      rw [reported mask]
      rfl
    · rw [State.decideExecution_of_not_guardStops passes, tripped]
      simp only [if_true]
      rw [reported mask]
      rfl
    · rw [State.decideExecution_of_not_guardStops passes, normal]
      simp only [reduceCtorEq, if_false]
      rw [reported ((State.maskExec_applyAction _ _ _ _).trans mask)]
      rfl

/-- Settles O43. -/
theorem dispatchAndExpiryTakeWhatIsDue : Obligations.DispatchAndExpiryTakeWhatIsDue := by
  refine ⟨fun s high => ?_, fun s high => ?_⟩
  · refine congrArg Host.Outcome.next ((State.unlessReset_of_high high _).trans ?_)
    simp only [State.dispatch, State.dueEntries, decide_not]
  · refine congrArg Host.Outcome.next ((State.unlessReset_of_high high _).trans ?_)
    have told (es : List ArmedEntry) (u : State) (now : u.count = s.count) :
        es.foldl (fun u e => u.notify e.core.poster (entryNotice u .timeout e.core (detailHad e.core.repeatPart))) u =
          es.foldl (fun u e => u.notify e.core.poster (entryNotice s .timeout e.core (detailHad e.core.repeatPart))) u := by
      induction es generalizing u with
      | nil => rfl
      | cons e es ih =>
        have here : entryNotice u .timeout e.core (detailHad e.core.repeatPart) = entryNotice s .timeout e.core (detailHad e.core.repeatPart) := by
          rw [entryNotice, entryNotice, now]
        rw [List.foldl_cons, List.foldl_cons, here]
        exact ih _ ((State.count_notify ..).trans now)
    rw [State.expire, told]
    · simp only [State.expiredEntries, decide_not, entryNotice, detailHad_eq] <;> rfl
    · rfl

/-- Settles O47. -/
theorem offerConvertsTheMatchingEntries : Obligations.OfferConvertsTheMatchingEntries := by
  refine ⟨?_, ?_⟩
  · intro s i d e matchesEdge
    have takes (a : ArmedEntry) : a.takes i d = matchesEdge a := by
      simp only [ArmedEntry.takes, matchesEdge, Bool.decide_and]
      refine congrArg _ ?_
      cases a.trigger.edge <;> cases d <;> rfl
    simp only [State.offer, takes]
  · intro s a e due
    refine ⟨fun ahead => ?_, fun now => ?_, fun behind late => ?_, fun behind refuse => ?_⟩
    · simp only [State.convert]; rw [ahead]; rfl
    · simp only [State.convert]; rw [now]
    · simp only [State.convert]; rw [behind]; exact if_pos late
    · simp only [State.convert]
      rw [behind]
      simp only [refuse, entryNotice, satByte_eq, lateness]
      rfl

end

section
/-! PROOFS. Tickets, CANCEL, QUERY_ENTRY and the configuration commands (O38 to O41). -/

namespace Sys2Proof.Machine

/-! ### The entry with a ticket -/

/-- Where no two share a ticket, a search by ticket finds the one that has it. -/
theorem find_ticket {α : Type} {ticket : α → Ticket} {l : List α} (nodup : (l.map ticket).Nodup) {e : α} (mem : e ∈ l) :
    l.find? (fun x => decide (ticket x = ticket e)) = some e := by
  induction l with
  | nil => exact absurd mem List.not_mem_nil
  | cons x xs ih =>
    obtain ⟨fresh, nodup⟩ := List.nodup_cons.mp nodup
    rcases List.mem_cons.mp mem with rfl | later
    · exact List.find?_cons_of_pos (decide_eq_true rfl)
    · have other : ticket x ≠ ticket e := fun same => fresh (same ▸ List.mem_map_of_mem later)
      rw [List.find?_cons_of_neg (by simpa using other)]
      exact ih nodup later

/-- Where no two share a ticket, the removal of one lowers each count that counts it by one. -/
theorem length_filter_remove {α : Type} {ticket : α → Ticket} {l : List α} (nodup : (l.map ticket).Nodup) {e : α} (mem : e ∈ l) {p : α → Bool}
    (counted : p e = true) : ((l.filter fun x => decide (ticket x ≠ ticket e)).filter p).length + 1 = (l.filter p).length := by
  induction l with
  | nil => exact absurd mem List.not_mem_nil
  | cons x xs ih =>
    obtain ⟨fresh, nodup⟩ := List.nodup_cons.mp nodup
    rcases List.mem_cons.mp mem with rfl | later
    · have stay : (xs.filter fun x => decide (ticket x ≠ ticket e)) = xs :=
        List.filter_eq_self.mpr fun y there => decide_eq_true fun same => fresh (same ▸ List.mem_map_of_mem there)
      rw [List.filter_cons_of_neg (by simp), stay, List.filter_cons_of_pos counted, List.length_cons]
    · have other : ticket x ≠ ticket e := fun same => fresh (same ▸ List.mem_map_of_mem later)
      rw [List.filter_cons_of_pos (by simpa using other)]
      cases px : p x with
      | true => simp only [List.filter_cons_of_pos px, List.length_cons, ih nodup later]
      | false => simp only [List.filter_cons_of_neg (by simp [px] : ¬ p x = true), ih nodup later]

theorem filter_ticket_of_not_mem {α : Type} {ticket : α → Ticket} {l : List α} {tk : Ticket} (absent : tk ∉ l.map ticket) :
    (l.filter fun x => decide (ticket x ≠ tk)) = l :=
  List.filter_eq_self.mpr fun _ there => decide_eq_true fun same => absent (same ▸ List.mem_map_of_mem there)

theorem find_ticket_of_not_mem {α : Type} {ticket : α → Ticket} {l : List α} {tk : Ticket} (absent : tk ∉ l.map ticket) :
    l.find? (fun x => decide (ticket x = tk)) = none :=
  List.find?_eq_none.mpr fun _ there held => absent (of_decide_eq_true held ▸ List.mem_map_of_mem there)

theorem State.findEntry_of_not_mem {t : State} {tk : Ticket} (absent : tk ∉ t.tickets) : t.findEntry tk = none := by
  simp only [State.tickets, List.mem_append, not_or] at absent
  rw [State.findEntry, find_ticket_of_not_mem absent.1, find_ticket_of_not_mem absent.2]
  rfl

theorem State.findEntry_timed {t : State} (nodup : t.tickets.Nodup) {e : TimedEntry} (mem : e ∈ t.timed) :
    t.findEntry e.core.ticket = some (.timed e) := by
  rw [State.findEntry, find_ticket (ticket := fun e : TimedEntry => e.core.ticket) (List.Nodup.of_append_left nodup) mem]

theorem State.ticket_not_timed {t : State} (nodup : t.tickets.Nodup) {e : ArmedEntry} (mem : e ∈ t.armed) :
    e.core.ticket ∉ t.timed.map fun e => e.core.ticket :=
  fun there => List.disjoint_of_nodup_append nodup there (List.mem_map_of_mem (f := fun e : ArmedEntry => e.core.ticket) mem)

theorem State.ticket_not_armed {t : State} (nodup : t.tickets.Nodup) {e : TimedEntry} (mem : e ∈ t.timed) :
    e.core.ticket ∉ t.armed.map fun e => e.core.ticket :=
  fun there => List.disjoint_of_nodup_append nodup (List.mem_map_of_mem (f := fun e : TimedEntry => e.core.ticket) mem) there

theorem State.findEntry_armed {t : State} (nodup : t.tickets.Nodup) {e : ArmedEntry} (mem : e ∈ t.armed) :
    t.findEntry e.core.ticket = some (.armed e) := by
  rw [State.findEntry, find_ticket_of_not_mem (State.ticket_not_timed nodup mem)]
  simp only
  rw [find_ticket (ticket := fun e : ArmedEntry => e.core.ticket) (List.Nodup.of_append_right nodup) mem]
  rfl

/-- What the removal of a TIMED entry leaves of the counts. -/
theorem State.counts_removeTicket_timed {t : State} (nodup : t.tickets.Nodup) {e : TimedEntry} (mem : e ∈ t.timed) :
    (t.removeTicket e.core.ticket).poolUsed = t.poolUsed - 1 ∧ (t.removeTicket e.core.ticket).held e.core.poster = t.held e.core.poster - 1 := by
  have unique : (t.timed.map fun e => e.core.ticket).Nodup := List.Nodup.of_append_left nodup
  have pool := length_filter_remove (p := fun _ => true) unique mem rfl
  have held := length_filter_remove (p := fun x : TimedEntry => decide (x.core.poster = e.core.poster)) unique mem (decide_eq_true rfl)
  have stay := filter_ticket_of_not_mem (State.ticket_not_armed nodup mem)
  simp only [List.filter_true] at pool
  simp only [State.removeTicket, State.poolUsed, State.held, ← decide_not]
  rw [stay]
  simp only [ne_eq] at pool held ⊢
  omega

/-- What the removal of an ARMED entry leaves of the counts. -/
theorem State.counts_removeTicket_armed {t : State} (nodup : t.tickets.Nodup) {e : ArmedEntry} (mem : e ∈ t.armed) :
    (t.removeTicket e.core.ticket).poolUsed = t.poolUsed - 1 ∧ (t.removeTicket e.core.ticket).held e.core.poster = t.held e.core.poster - 1 := by
  have unique : (t.armed.map fun e => e.core.ticket).Nodup := List.Nodup.of_append_right nodup
  have pool := length_filter_remove (p := fun _ => true) unique mem rfl
  have held := length_filter_remove (p := fun x : ArmedEntry => decide (x.core.poster = e.core.poster)) unique mem (decide_eq_true rfl)
  have stay := filter_ticket_of_not_mem (State.ticket_not_timed nodup mem)
  simp only [List.filter_true] at pool
  simp only [State.removeTicket, State.poolUsed, State.held, ← decide_not]
  rw [stay]
  simp only [ne_eq] at pool held ⊢
  omega

theorem State.removeTicket_eq (t : State) (tk : Ticket) :
    t.removeTicket tk = { t with timed := t.timed.filter fun e => decide (e.core.ticket ≠ tk), armed := t.armed.filter fun e => decide (e.core.ticket ≠ tk) } := by
  simp only [State.removeTicket, decide_not, ne_eq]

/-! ### CANCEL and QUERY_ENTRY by what the search finds -/

theorem cancel_of_none {t : State} {m : Master} {tk : Ticket} (found : t.findEntry tk = none) :
    cancel m (bytes16 tk) t = (t, ⟨.notFound, []⟩) := by
  rw [cancel, u16At_bytes16, found]
  rfl

theorem cancel_of_other {t : State} {m : Master} {tk : Ticket} {e : PoolEntry} (found : t.findEntry tk = some e) (other : (entryCore e).poster ≠ m) :
    cancel m (bytes16 tk) t = (t, ⟨.notYours, []⟩) := by
  rw [cancel, u16At_bytes16, found]
  exact if_neg other

theorem cancel_of_own {t : State} {m : Master} {tk : Ticket} {e : PoolEntry} (found : t.findEntry tk = some e) (own : (entryCore e).poster = m) :
    cancel m (bytes16 tk) t = (t.removeTicket tk,
      ⟨.ok, [entryStateCode e, countByte (64 - (t.removeTicket tk).poolUsed), countByte ((t.removeTicket tk).held m)]⟩) := by
  rw [cancel, u16At_bytes16, found]
  exact if_pos own

theorem queryEntry_of_none {t : State} {m : Master} {tk : Ticket} (found : t.findEntry tk = none) :
    queryEntry m (bytes16 tk) t = (t, ⟨.notFound, []⟩) := by
  rw [queryEntry, u16At_bytes16, found]
  rfl

theorem queryEntry_of_other {t : State} {m : Master} {tk : Ticket} {e : PoolEntry} (found : t.findEntry tk = some e)
    (other : (entryCore e).poster ≠ m) : queryEntry m (bytes16 tk) t = (t, ⟨.notYours, []⟩) := by
  rw [queryEntry, u16At_bytes16, found]
  exact if_neg other

theorem queryEntry_of_own {t : State} {m : Master} {tk : Ticket} {e : PoolEntry} (found : t.findEntry tk = some e)
    (own : (entryCore e).poster = m) : queryEntry m (bytes16 tk) t = (t, ⟨.ok, entryDescription e⟩) := by
  rw [queryEntry, u16At_bytes16, found]
  exact if_pos own

/-! ### The description of an entry -/

theorem guardByte_eq (g : GuardPart) : guardByte g = countByte g.input.val ||| (if g.level = .high then 0x80 else 0) := by
  unfold guardByte
  cases g.level <;> rfl

theorem triggerBytes_eq (t : TriggerPart) :
    t.bytes = [countByte t.input.val ||| (match t.edge with | .rise => 0x10 | .fall => 0x20 | .either => 0x30)] ++ bytes24 t.delay := by
  have code (k : TriggerEdge) : triggerEdgeCode k <<< 4 = match k with | .rise => 0x10 | .fall => 0x20 | .either => 0x30 := by cases k <;> decide
  rw [TriggerPart.bytes, code]

end Sys2Proof.Machine
end

section

open Sys2Proof Sys2Proof.Machine

/-- Settles O38. -/
theorem ticketsAndCalendarOrder : Obligations.TicketsAndCalendarOrder := by
  refine ⟨fun s room => ?_, fun c e l ascending => insertByDue_split e ascending⟩
  obtain ⟨k, found, fresh, passed⟩ := State.nextTicket_spec (s := s) room
  exact ⟨k, found, s.nextTicket_ne_zero, fresh, passed⟩

/-- Settles O39: the search finds the one entry with the ticket, and its removal lowers the counts by one. -/
theorem cancelAndCancelLineRemoveEntries : Obligations.CancelAndCancelLineRemoveEntries := by
  refine ⟨?_, ?_⟩
  · intro s t m tag tk taken active nodup row removed
    have answers {u : State} {r : Reply} (does : cancel m (bytes16 tk) t = (u, r)) : row = .next (u.respond m tag 0x31 r) :=
      exec_of_active taken active (c := .cancel) rfl rfl does tag
    have removed_eq : t.removeTicket tk = removed := t.removeTicket_eq tk
    refine ⟨fun absent => answers (cancel_of_none (State.findEntry_of_not_mem absent)), fun e mem here => ?_, fun e mem here => ?_⟩
    · subst here
      have found := State.findEntry_timed nodup mem
      obtain ⟨pool, held⟩ := State.counts_removeTicket_timed nodup mem
      refine ⟨fun other => answers (cancel_of_other found other), fun own => ?_⟩
      subst own
      rw [← removed_eq, ← pool, ← held]
      exact answers (cancel_of_own found rfl)
    · subst here
      have found := State.findEntry_armed nodup mem
      obtain ⟨pool, held⟩ := State.counts_removeTicket_armed nodup mem
      refine ⟨fun other => answers (cancel_of_other found other), fun own => ?_⟩
      subst own
      rw [← removed_eq, ← pool, ← held]
      exact answers (cancel_of_own found rfl)
  · intro s t m tag l taken active keep u
    have line : lineOfByte (byteAt [countByte l.val] 0) = l := lineOfByte_countByte l
    have does : cancelLine m [countByte l.val] t = (u, ⟨.ok, [countByte (t.poolUsed - u.poolUsed), countByte (64 - u.poolUsed), countByte (u.held m)]⟩) := by
      rw [cancelLine, if_neg (by exact countByte_line_le l), line, State.purgeLine_eq]
      rfl
    exact exec_of_active taken active (c := .cancelLine) rfl rfl does tag

/-- Settles O40. -/
theorem queryEntryDescribesTheEntry : Obligations.QueryEntryDescribesTheEntry := by
  intro s t m tag tk taken active nodup row flags action tail
  have answers {r : Reply} (does : queryEntry m (bytes16 tk) t = (t, r)) : row = .next (t.respond m tag 0x33 r) :=
    exec_of_active taken active (c := .queryEntry) rfl rfl does tag
  have flags_eq (e : EntryCore) : (if e.notify then 0x02 else 0) ||| (if e.runLate then 0x04 else 0)
    ||| (if e.repeatPart.isSome then 0x08 else 0) ||| (if e.guardPart.isSome then 0x10 else 0) = flags e := by
    simp only [flags]
    cases e.repeatPart <;> cases e.guardPart <;> rfl
  have tail_eq (e : EntryCore) : entryRepeatBytes e ++ [entryGuardByte e] = tail e := by
    simp only [tail, entryRepeatBytes, entryGuardByte]
    cases e.repeatPart <;> cases e.guardPart <;> simp only [guardByte_eq] <;> rfl
  refine ⟨fun absent => answers (queryEntry_of_none (State.findEntry_of_not_mem absent)), fun e mem here own => ?_, fun e mem here own => ?_, ?_⟩
  · subst here
    refine (answers (queryEntry_of_own (State.findEntry_timed nodup mem) own)).trans ?_
    have flagsByte : entryFlagsByte (.timed e) = flags e.core := (BitVec.or_zero).trans (flags_eq e.core)
    rw [entryDescription, flagsByte, List.append_assoc _ (entryRepeatBytes _), tail_eq]
    rfl
  · subst here
    refine (answers (queryEntry_of_own (State.findEntry_armed nodup mem) own)).trans ?_
    have flagsByte : entryFlagsByte (.armed e) = flags e.core ||| 0x20 ||| (if e.deadline = none then 0 else 0x40) := by
      have deadline : (if e.deadline = none then 0 else 0x40 : Byte) = if e.deadline.isSome then 0x40 else 0 := by cases e.deadline <;> rfl
      rw [← flags_eq, BitVec.or_assoc _ 0x20, deadline]
      rfl
    have time : entryTime (.armed e) = match e.deadline with | none => 0 | some d => d := by
      show e.deadline.getD 0 = _
      cases e.deadline <;> rfl
    rw [entryDescription, flagsByte, List.append_assoc _ (entryRepeatBytes _), tail_eq, entryTriggerBytes, triggerBytes_eq, time]
    rfl
  · rintro (⟨e, mem, here, other⟩ | ⟨e, mem, here, other⟩)
    · subst here
      exact answers (queryEntry_of_other (State.findEntry_timed nodup mem) other)
    · subst here
      exact answers (queryEntry_of_other (State.findEntry_armed nodup mem) other)

/-- Settles O41. -/
theorem configurationSetsItsOneSetting : Obligations.ConfigurationSetsItsOneSetting := by
  refine ⟨fun s t m x tag q taken port session low high => ?_, ?_, fun s t m tag q i k taken port session => ?_⟩
  · have range : ¬ (q = 0 ∨ 64#8 < q) := by
      rintro (zero | large)
      · subst zero; exact absurd low (by decide)
      · exact absurd (BitVec.lt_def.mp large) (Nat.not_lt.mpr high)
    have does : setQuota m [masterCode x, q] t = ({ t with quotas := t.quotas.set x q.toNat }, ⟨.ok, [q, countByte (t.held x)]⟩) := by
      have named : masterOfCode (byteAt [masterCode x, q] 0) = some x := masterOfCode_masterCode x
      rw [setQuota, named]
      simp only
      rw [if_neg (by simpa [byteAt] using range)]
      rfl
    exact ⟨_, exec_of_configPort taken (c := .setQuota) port session rfl rfl does tag, rfl, PerMaster.get_set_self .., fun y other => PerMaster.get_set_ne _ _ other⟩
  · intro s t m tag l v taken port session drives level
    refine exec_of_configPort taken (c := .setSafe) (p := [countByte l.val, levelCode v]) port session rfl rfl ?_ tag
    show setSafe m [countByte l.val, levelCode v] t = _
    have line : lineOfByte (byteAt [countByte l.val, levelCode v] 0) = l := lineOfByte_countByte l
    have bit : levelOfBit (decide (byteAt [countByte l.val, levelCode v] 1 = 1)) = v := by cases v <;> rfl
    have range : ¬ (15#8 < countByte l.val ∨ 1#8 < levelCode v) := by
      rintro (high | high)
      · exact countByte_line_le l high
      · cases v <;> exact absurd high (by decide)
    have put : t.putSafe l v = t.setLine l { t.line l with safe := v, level := level } := by
      simp only [State.putSafe, level]
      by_cases drive : drives
      · rw [if_pos drive, if_pos drive]
      · rw [if_neg drive, if_neg drive]
    rw [setSafe, if_neg (by simpa [byteAt] using range), line, bit]
    simp only
    rw [put, State.line_setLine_self]
  · refine exec_of_configPort taken (c := .setInput) (p := [countByte i.val, edgeSelectCode k, q]) port session rfl rfl ?_ tag
    show setInput m [countByte i.val, edgeSelectCode k, q] t = _
    have input : inputOfBits (byteAt [countByte i.val, edgeSelectCode k, q] 0) = i := inputOfBits_countByte i
    have select : edgeSelectOfCode (byteAt [countByte i.val, edgeSelectCode k, q] 1) = k := edgeSelectOfCode_edgeSelectCode k
    have range : ¬ (7#8 < countByte i.val ∨ 3#8 < edgeSelectCode k) := by
      rintro (high | high)
      · exact countByte_input_le i high
      · cases k <;> exact absurd high (by decide)
    rw [setInput, if_neg (by simpa [byteAt] using range), input, select]
    rfl

end

section
/-! PROOFS. POST: its layout (O35). -/

namespace Sys2Proof.Machine

/-! ### Fields behind other bytes -/

/-- A part of the payload, where it is present (section 11.3). -/
def optionalPart (present : Bool) (bytes : List Byte) : List Byte := if present then bytes else []

theorem length_optionalPart (present : Bool) (bytes : List Byte) : (optionalPart present bytes).length = if present then bytes.length else 0 := by
  cases present <;> rfl

theorem byteAt_append (front rest : List Byte) (i : Nat) : byteAt (front ++ rest) (front.length + i) = byteAt rest i := by
  rw [byteAt, List.getD_append_right _ _ _ _ (Nat.le_add_right _ _), Nat.add_sub_cancel_left]
  rfl

theorem u16At_append (front rest : List Byte) (i : Nat) : u16At (front ++ rest) (front.length + i) = u16At rest i :=
  congrArg₂ (· ++ ·) (byteAt_append front rest i) (byteAt_append front rest (i + 1))

theorem u24At_append (front rest : List Byte) (i : Nat) : u24At (front ++ rest) (front.length + i) = u24At rest i :=
  congrArg₂ (· ++ ·) (byteAt_append front rest i) (u16At_append front rest (i + 1))

theorem u32At_append (front rest : List Byte) (i : Nat) : u32At (front ++ rest) (front.length + i) = u32At rest i :=
  congrArg₂ (· ++ ·) (u16At_append front rest i) (u16At_append front rest (i + 2))

/-! ### The layout of a POST payload -/

section Layout

variable (line action flags trainByte triggerByte guardByte : Byte) (due deadline : Word) (period highTime pulses executions : BitVec 16)
  (delay interval : BitVec 24)

/-- The payload with the parts that the flags and the action call for (section 11.3). -/
def postPayload : List Byte :=
  [line, action, flags] ++ optionalPart (!flags.getLsbD 0 && !flags.getLsbD 5) (bytes32 due)
    ++ optionalPart (decide (action = 3)) (bytes16 period ++ bytes16 highTime ++ bytes16 pulses ++ [trainByte])
    ++ optionalPart (flags.getLsbD 5) ([triggerByte] ++ bytes24 delay) ++ optionalPart (flags.getLsbD 6) (bytes32 deadline)
    ++ optionalPart (flags.getLsbD 3) (bytes24 interval ++ bytes16 executions) ++ optionalPart (flags.getLsbD 4) [guardByte]

end Layout

/-- The sizes of the parts are their lengths (R20). -/
theorem dueSize_eq (flags : Byte) (due : Word) : dueSize flags = (optionalPart (!flags.getLsbD 0 && !flags.getLsbD 5) (bytes32 due)).length := by
  rw [length_optionalPart, dueSize, flagImmediate, flagTrigger]
  cases flags.getLsbD 0 <;> cases flags.getLsbD 5 <;> rfl

theorem ite_congr_then {α : Sort _} {c : Prop} [Decidable c] {a b z : α} (h : c → a = b) : (if c then a else z) = if c then b else z := by
  by_cases hc : c
  · rw [if_pos hc, if_pos hc, h hc]
  · rw [if_neg hc, if_neg hc]

/-- A POST payload is read as it is laid out: each part begins where the parts before it end (R20, section 11.3). -/
theorem postFields_postPayload (line action flags trainByte triggerByte guardByte : Byte) (due deadline : Word)
    (period highTime pulses executions : BitVec 16) (delay interval : BitVec 24) :
    postFields (postPayload line action flags trainByte triggerByte guardByte due deadline period highTime pulses executions delay interval) =
      { line := line, action := action, flags := flags, due := if !flags.getLsbD 0 && !flags.getLsbD 5 then due else 0
        period := if decide (action = 3) then period else 0, highTime := if decide (action = 3) then highTime else 0
        pulses := if decide (action = 3) then pulses else 0, trainByte := if decide (action = 3) then trainByte else 0
        triggerByte := if flags.getLsbD 5 then triggerByte else 0, delay := if flags.getLsbD 5 then delay else 0
        deadline := if flags.getLsbD 6 then deadline else 0
        interval := if flags.getLsbD 3 then interval else 0, executions := if flags.getLsbD 3 then executions else 0
        guardByte := if flags.getLsbD 4 then guardByte else 0 } := by
  unfold postPayload
  generalize hTimed : optionalPart (!flags.getLsbD 0 && !flags.getLsbD 5) (bytes32 due) = timedPart
  generalize hTrain : optionalPart (decide (action = 3)) (bytes16 period ++ bytes16 highTime ++ bytes16 pulses ++ [trainByte]) = trainPart
  generalize hTrigger : optionalPart (flags.getLsbD 5) ([triggerByte] ++ bytes24 delay) = triggerPart
  generalize hDeadline : optionalPart (flags.getLsbD 6) (bytes32 deadline) = deadlinePart
  generalize hRepeat : optionalPart (flags.getLsbD 3) (bytes24 interval ++ bytes16 executions) = repeatPart
  generalize hGuard : optionalPart (flags.getLsbD 4) [guardByte] = guardPart
  have timedSize : dueSize flags = timedPart.length := by rw [← hTimed]; exact dueSize_eq flags due
  have trainLength : trainSize action = trainPart.length := by rw [← hTrain, length_optionalPart]; simp [trainSize, bytes16]
  have triggerLength : triggerSize flags = triggerPart.length := by rw [← hTrigger, length_optionalPart]; rfl
  have deadlineLength : deadlineSize flags = deadlinePart.length := by rw [← hDeadline, length_optionalPart]; rfl
  have repeatLength : repeatSize flags = repeatPart.length := by rw [← hRepeat, length_optionalPart]; rfl
  generalize payload : [line, action, flags] ++ timedPart ++ trainPart ++ triggerPart ++ deadlinePart ++ repeatPart ++ guardPart = p
  have readLine : byteAt p 0 = line := by rw [← payload]; rfl
  have readAction : byteAt p 1 = action := by rw [← payload]; rfl
  have readFlags : byteAt p 2 = flags := by rw [← payload]; rfl
  have readTimed (present : (!flags.getLsbD 0 && !flags.getLsbD 5) = true) : u32At p 3 = due := by
    have at_ : p = [line, action, flags] ++ (timedPart ++ (trainPart ++ (triggerPart ++ (deadlinePart ++ (repeatPart ++ guardPart))))) := by
      rw [← payload]; simp only [List.append_assoc]
    rw [at_, ← hTimed, optionalPart, if_pos present]
    exact (u32At_append [line, action, flags] _ 0).trans (u32At_of_bytes rfl rfl rfl rfl)
  have trainOffset : 3 + dueSize flags = ([line, action, flags] ++ timedPart).length := by rw [timedSize, List.length_append]; rfl
  have readTrain (present : action = 3) : u16At p (3 + dueSize flags) = period ∧ u16At p (3 + dueSize flags + 2) = highTime ∧
      u16At p (3 + dueSize flags + 4) = pulses ∧ byteAt p (3 + dueSize flags + 6) = trainByte := by
    have at_ : p = ([line, action, flags] ++ timedPart) ++ (trainPart ++ (triggerPart ++ (deadlinePart ++ (repeatPart ++ guardPart)))) := by
      rw [← payload]; simp only [List.append_assoc]
    rw [trainOffset, at_, ← hTrain, optionalPart, if_pos (decide_eq_true present)]
    exact ⟨(u16At_append _ _ 0).trans (u16At_of_bytes rfl rfl), (u16At_append _ _ 2).trans (u16At_of_bytes rfl rfl),
      (u16At_append _ _ 4).trans (u16At_of_bytes rfl rfl), byteAt_append _ _ 6⟩
  have triggerOffset : 3 + dueSize flags + trainSize action = ([line, action, flags] ++ timedPart ++ trainPart).length := by
    rw [trainOffset, trainLength, ← List.length_append]
  have readTrigger (present : flags.getLsbD 5 = true) : byteAt p (3 + dueSize flags + trainSize action) = triggerByte ∧
      u24At p (3 + dueSize flags + trainSize action + 1) = delay := by
    have at_ : p = ([line, action, flags] ++ timedPart ++ trainPart) ++ (triggerPart ++ (deadlinePart ++ (repeatPart ++ guardPart))) := by
      rw [← payload]; simp only [List.append_assoc]
    rw [triggerOffset, at_, ← hTrigger, optionalPart, if_pos present]
    exact ⟨byteAt_append _ _ 0, (u24At_append _ _ 1).trans (u24At_of_bytes rfl rfl rfl)⟩
  have deadlineOffset : 3 + dueSize flags + trainSize action + triggerSize flags =
      ([line, action, flags] ++ timedPart ++ trainPart ++ triggerPart).length := by rw [triggerOffset, triggerLength, ← List.length_append]
  have readDeadline (present : flags.getLsbD 6 = true) : u32At p (3 + dueSize flags + trainSize action + triggerSize flags) = deadline := by
    have at_ : p = ([line, action, flags] ++ timedPart ++ trainPart ++ triggerPart) ++ (deadlinePart ++ (repeatPart ++ guardPart)) := by
      rw [← payload]; simp only [List.append_assoc]
    rw [deadlineOffset, at_, ← hDeadline, optionalPart, if_pos present]
    exact (u32At_append _ _ 0).trans (u32At_of_bytes rfl rfl rfl rfl)
  have repeatOffset : 3 + dueSize flags + trainSize action + triggerSize flags + deadlineSize flags =
      ([line, action, flags] ++ timedPart ++ trainPart ++ triggerPart ++ deadlinePart).length := by
    rw [deadlineOffset, deadlineLength, ← List.length_append]
  have readRepeat (present : flags.getLsbD 3 = true) :
      u24At p (3 + dueSize flags + trainSize action + triggerSize flags + deadlineSize flags) = interval ∧
        u16At p (3 + dueSize flags + trainSize action + triggerSize flags + deadlineSize flags + 3) = executions := by
    have at_ : p = ([line, action, flags] ++ timedPart ++ trainPart ++ triggerPart ++ deadlinePart) ++ (repeatPart ++ guardPart) := by
      rw [← payload]; simp only [List.append_assoc]
    rw [repeatOffset, at_, ← hRepeat, optionalPart, if_pos present]
    exact ⟨(u24At_append _ _ 0).trans (u24At_of_bytes rfl rfl rfl), (u16At_append _ _ 3).trans (u16At_of_bytes rfl rfl)⟩
  have readGuard (present : flags.getLsbD 4 = true) :
      byteAt p (3 + dueSize flags + trainSize action + triggerSize flags + deadlineSize flags + repeatSize flags) = guardByte := by
    rw [repeatOffset, repeatLength, ← List.length_append, ← payload, ← hGuard, optionalPart, if_pos present]
    exact byteAt_append _ [guardByte] 0
  have timed : (flagImmediate flags || flagTrigger flags) = !(!flags.getLsbD 0 && !flags.getLsbD 5) := by
    rw [flagImmediate, flagTrigger]; cases flags.getLsbD 0 <;> cases flags.getLsbD 5 <;> rfl
  simp only [postFields, readLine, readAction, readFlags, timed, PostFields.mk.injEq, Bool.not_eq_true', decide_eq_true_eq, true_and]
  refine ⟨?_, ite_congr_then fun h => (readTrain h).1, ite_congr_then fun h => (readTrain h).2.1, ite_congr_then fun h => (readTrain h).2.2.1,
    ite_congr_then fun h => (readTrain h).2.2.2, ite_congr_then fun h => (readTrigger h).1, ite_congr_then fun h => (readTrigger h).2,
    ite_congr_then readDeadline, ite_congr_then fun h => (readRepeat h).1, ite_congr_then fun h => (readRepeat h).2, ite_congr_then readGuard⟩
  cases present : (!flags.getLsbD 0 && !flags.getLsbD 5) with
  | false => rfl
  | true => exact readTimed present

end Sys2Proof.Machine
end

section
/-! PROOFS. POST: its nine checks and its paths (O35, O36, O37). -/

namespace Sys2Proof.Machine

/-! ### The nine checks -/

theorem postLengthOk_iff (p : List Byte) :
    (p.length < 3 ∨ p.length ≠ 3 + (if (byteAt p 2).getLsbD 0 = true ∨ (byteAt p 2).getLsbD 5 = true then 0 else 4)
      + (if byteAt p 1 = 3 then 7 else 0) + (if (byteAt p 2).getLsbD 5 = true then 4 else 0) + (if (byteAt p 2).getLsbD 6 = true then 4 else 0)
      + (if (byteAt p 2).getLsbD 3 = true then 5 else 0) + (if (byteAt p 2).getLsbD 4 = true then 1 else 0)) ↔ ¬ postLengthOk p = true := by
  have due : dueSize (byteAt p 2) = if (byteAt p 2).getLsbD 0 = true ∨ (byteAt p 2).getLsbD 5 = true then 0 else 4 := by
    simp only [dueSize, flagImmediate, flagTrigger, Bool.or_eq_true]
  rw [postLengthOk, postLength, due]
  simp only [Bool.and_eq_true, decide_eq_true_eq, not_and_or, not_le]
  rfl

theorem badForm_iff (f : PostFields) :
    ((f.flags.getLsbD 0 = true ∧ f.flags.getLsbD 5 = true) ∨ (f.flags.getLsbD 6 = true ∧ ¬ f.flags.getLsbD 5 = true) ∨ f.flags.getLsbD 7 = true ∨
      f.trainByte &&& 0xC0 ≠ 0 ∨ f.triggerByte &&& 0xC8 ≠ 0 ∨ f.guardByte &&& 0x78 ≠ 0) ↔ f.badForm = true := by
  simp only [PostFields.badForm, PostFields.reservedSet, flagImmediate, flagTrigger, flagDeadline, flagReserved, Bool.or_eq_true, Bool.and_eq_true,
    Bool.not_eq_true', Bool.not_eq_true, bne_iff_ne, or_assoc]
  rfl

theorem badRange_iff (f : PostFields) :
    (15 < f.line.toNat ∨ 4 < f.action.toNat ∨ (f.action = 3 ∧ f.period.toNat < 2) ∨ (f.flags.getLsbD 3 = true ∧ f.interval = 0) ∨
      (f.flags.getLsbD 5 = true ∧ f.triggerByte.toNat / 16 % 4 = 0)) ↔ f.badRange = true := by
  have edge : f.triggerByte.toNat / 16 % 4 = 0 ↔ f.edgeCode = 0 := by
    rw [← toNat_edgeCode]
    exact ⟨fun zero => BitVec.eq_of_toNat_eq zero, fun zero => by rw [zero]; rfl⟩
  rw [edge]
  simp only [PostFields.badRange, flagRepeat, flagTrigger, Bool.or_eq_true, Bool.and_eq_true, decide_eq_true_eq, BitVec.lt_def, or_assoc]
  rfl

theorem leavesEntry_iff (f : PostFields) (c : Word) :
    (f.flags.getLsbD 5 = true ∨ (¬ f.flags.getLsbD 0 = true ∧ ¬ f.flags.getLsbD 5 = true ∧ classify c f.due = .ahead) ∨
      (f.flags.getLsbD 3 = true ∧ f.executions ≠ 1)) ↔ f.leavesEntry c = true := by
  simp only [PostFields.leavesEntry, PostFields.isTimed, flagImmediate, flagTrigger, flagRepeat, Bool.or_eq_true, Bool.and_eq_true,
    Bool.not_eq_true', Bool.not_eq_true, decide_eq_true_eq, and_assoc, or_assoc]

theorem edgeCode_eq_iff (f : PostFields) {n : Nat} (small : n < 256) : f.edgeCode = BitVec.ofNat 8 n ↔ f.triggerByte.toNat / 16 % 4 = n := by
  rw [← toNat_edgeCode]
  exact ⟨fun e => by rw [e, BitVec.toNat_ofNat]; omega, fun e => BitVec.eq_of_toNat_eq (by rw [e, BitVec.toNat_ofNat]; omega)⟩

/-- The edge of the trigger part, by the edge code (section 11.3). -/
theorem edge_trigger (f : PostFields) :
    f.trigger.edge = if f.triggerByte.toNat / 16 % 4 = 1 then .rise else if f.triggerByte.toNat / 16 % 4 = 2 then .fall else .either := by
  have rise : f.edgeCode = 1 ↔ f.triggerByte.toNat / 16 % 4 = 1 := edgeCode_eq_iff f (by decide)
  have fall : f.edgeCode = 2 ↔ f.triggerByte.toNat / 16 % 4 = 2 := edgeCode_eq_iff f (by decide)
  simp only [PostFields.trigger, rise, fall]

/-- The edge select cannot give the edge of the trigger byte: the cases of R47. -/
theorem selectGives_iff (f : PostFields) (k : EdgeSelect) :
    (k = .none ∨ (k = .rise ∧ f.triggerByte.toNat / 16 % 4 = 2) ∨ (k = .fall ∧ f.triggerByte.toNat / 16 % 4 = 1)) ↔
      ¬ selectGives k f.trigger.edge = true := by
  rw [edge_trigger]
  generalize f.triggerByte.toNat / 16 % 4 = n
  by_cases one : n = 1
  · cases k <;> simp [selectGives, one]
  · by_cases two : n = 2
    · cases k <;> simp [selectGives, two]
    · cases k <;> simp [selectGives, one, two]

/-- The nine checks of POST, in their order, are those of the model (R20 to R24, R46, R47, R188). -/
theorem postCheck_eq (t : State) (m : Master) (p : List Byte) :
    postCheck t m p = if postLengthOk p = true then t.postRefusal m (postFields p) else some .badLength := by
  have wrong_length := postLengthOk_iff p
  have action : byteAt p 1 = (postFields p).action := rfl
  have flags : byteAt p 2 = (postFields p).flags := rfl
  unfold postCheck
  simp only [← byteAt.eq_1 p]
  by_cases ok : postLengthOk p = true
  · have owner (l : Byte) : (t.line (Fin.ofNat 16 l.toNat)).owner ≠ some m ↔ (t.line (lineOfByte l)).owner ≠ some m := by rw [lineOfByte_eq_ofNat]
    have full (f : PostFields) : (64 ≤ t.poolUsed ∧ (f.flags.getLsbD 5 = true ∨
        (¬ f.flags.getLsbD 0 = true ∧ ¬ f.flags.getLsbD 5 = true ∧ classify t.count f.due = .ahead) ∨ (f.flags.getLsbD 3 = true ∧ f.executions ≠ 1))) ↔
        (f.leavesEntry t.count && decide (Config.poolSize ≤ t.poolUsed)) = true := by
      rw [leavesEntry_iff, Bool.and_eq_true, decide_eq_true_eq, and_comm]
      rfl
    have late (f : PostFields) : (¬ f.flags.getLsbD 0 = true ∧ ¬ f.flags.getLsbD 5 = true ∧ classify t.count f.due = .behind ∧ ¬ f.flags.getLsbD 2 = true) ↔
        (f.isTimed && decide (classify t.count f.due = .behind) && !flagRunLate f.flags) = true := by
      simp only [PostFields.isTimed, flagImmediate, flagTrigger, flagRunLate, Bool.and_eq_true, Bool.not_eq_true', Bool.not_eq_true,
        decide_eq_true_eq, and_assoc]
    have passed (f : PostFields) : (f.flags.getLsbD 6 = true ∧ classify t.count f.deadline ≠ .ahead) ↔
        (flagDeadline f.flags && decide (classify t.count f.deadline ≠ .ahead)) = true := by
      simp only [flagDeadline, Bool.and_eq_true, decide_eq_true_eq]
    have never (f : PostFields) : (f.flags.getLsbD 5 = true ∧ ((t.input (Fin.ofNat 8 f.triggerByte.toNat)).select = .none ∨
        ((t.input (Fin.ofNat 8 f.triggerByte.toNat)).select = .rise ∧ f.triggerByte.toNat / 16 % 4 = 2) ∨
        ((t.input (Fin.ofNat 8 f.triggerByte.toNat)).select = .fall ∧ f.triggerByte.toNat / 16 % 4 = 1))) ↔
        (flagTrigger f.flags && !selectGives (t.input f.trigger.input).select f.trigger.edge) = true := by
      have input : f.trigger.input = Fin.ofNat 8 f.triggerByte.toNat := inputOfBits_eq_ofNat _
      rw [selectGives_iff, input, flagTrigger, Bool.and_eq_true, Bool.not_eq_true', Bool.not_eq_true]
    rw [if_pos ok, if_neg fun wrong => wrong_length.mp wrong ok, action, flags]
    generalize postFields p = f
    unfold State.postRefusal
    exact if_congr (badForm_iff f) rfl <| if_congr (badRange_iff f) rfl <| if_congr (owner f.line) rfl <| if_congr Iff.rfl rfl <|
      if_congr (full f) rfl <| if_congr (late f) rfl <| if_congr (passed f) rfl <| if_congr (never f) rfl rfl
  · rw [if_neg ok, if_pos (wrong_length.mpr ok)]

/-- A POST that fails a check answers it and changes nothing; one that passes them all is accepted. -/
theorem post_of_postCheck_some {t : State} {m : Master} {p : List Byte} {r : Result} (fails : postCheck t m p = some r) :
    post m p t = (t, Reply.refuse r) := by
  rw [postCheck_eq] at fails
  unfold post
  split at fails
  · next ok => rw [if_pos ok, fails]
  · next short => cases fails; rw [if_neg short]

theorem post_of_postCheck_none {t : State} {m : Master} {p : List Byte} (passes : postCheck t m p = none) :
    post m p t = t.acceptPost m (postFields p) := by
  rw [postCheck_eq] at passes
  unfold post
  split at passes
  · next ok => rw [if_pos ok, passes]
  · cases passes

/-- POST by an ACTIVE master. -/
theorem exec_post {s t u : State} {m : Master} {p : List Byte} {r : Reply} (taken : TakenIn s m t) (active : t.isActive m = true)
    (does : post m p t = (u, r)) (tag : Byte) : exec (.post m tag p) s = .next (u.respond m tag 0x30 r) :=
  exec_of_meaning taken (c := .post) (commonRefusal_of_active active rfl fun _ none => by cases none) does tag

/-! ### The counts after a POST -/

theorem State.poolUsed_insertTimed (s : State) (e : TimedEntry) : (s.insertTimed e).poolUsed = s.poolUsed + 1 := by
  simp only [State.insertTimed, State.poolUsed, length_insertByDue]
  omega

theorem State.held_insertTimed (s : State) {e : TimedEntry} {m : Master} (own : e.core.poster = m) : (s.insertTimed e).held m = s.held m + 1 := by
  have inserted := ((perm_insertByDue s.count e s.timed).filter fun e => decide (e.core.poster = m)).length_eq
  rw [List.filter_cons_of_pos (by simpa using own), List.length_cons] at inserted
  simp only [State.insertTimed, State.held, inserted]
  omega

theorem State.poolUsed_arm (s : State) (e : ArmedEntry) : (s.arm e).poolUsed = s.poolUsed + 1 := by
  simp only [State.arm, State.poolUsed, List.length_append, List.length_singleton]
  omega

theorem State.held_arm (s : State) {e : ArmedEntry} {m : Master} (own : e.core.poster = m) : (s.arm e).held m = s.held m + 1 := by
  have last : ([e].filter fun e => decide (e.core.poster = m)).length = 1 := by simp [own]
  simp only [State.arm, State.held, List.filter_append, List.length_append, last]
  omega

theorem State.poolUsed_applyAction (s : State) (l : Fin 16) (a : Action) (tk : Ticket) : (s.applyAction l a tk).poolUsed = s.poolUsed := by
  rw [s.applyAction_frame l a tk]; rfl

theorem State.held_applyAction (s : State) (l : Fin 16) (a : Action) (tk : Ticket) (m : Master) : (s.applyAction l a tk).held m = s.held m := by
  rw [s.applyAction_frame l a tk]; rfl

theorem State.count_applyAction (s : State) (l : Fin 16) (a : Action) (tk : Ticket) : (s.applyAction l a tk).count = s.count :=
  count_of_maskExec (s.maskExec_applyAction l a tk)

/-! ### The paths -/

/-- The state of an accepted POST when its ticket is issued. -/
def State.issued (t : State) : State := { t with lastTicket := t.nextTicket }

/-- The answer of an accepted POST that leaves `used` slots occupied and `held` of them the master's (R28). -/
def postAnswer (t : State) (outcome : Byte) (used held : Nat) : Reply :=
  ⟨.ok, bytes16 t.nextTicket ++ [outcome, countByte (64 - used), countByte held]⟩

theorem acceptPost_eq (t : State) (m : Master) (f : PostFields) :
    t.acceptPost m f = (t.issued.actPost f (f.core t.nextTicket m),
      postAnswer t (t.issued.postOutcomeByte f (f.core t.nextTicket m)) (t.issued.actPost f (f.core t.nextTicket m)).poolUsed
        ((t.issued.actPost f (f.core t.nextTicket m)).held m)) := rfl

/-- An armed POST joins the armed list (R44). -/
theorem acceptPost_of_arm {t : State} {m : Master} {f : PostFields} (arms : flagTrigger f.flags = true) :
    t.acceptPost m f = (t.issued.arm { core := f.core t.nextTicket m, trigger := f.trigger, deadline := f.deadline? },
      postAnswer t 2 (t.poolUsed + 1) (t.held m + 1)) := by
  have path : f.path t.issued.count = .arm := if_pos arms
  have pool := t.issued.poolUsed_arm { core := f.core t.nextTicket m, trigger := f.trigger, deadline := f.deadline? }
  have held := t.issued.held_arm (e := { core := f.core t.nextTicket m, trigger := f.trigger, deadline := f.deadline? }) (m := m) rfl
  rw [acceptPost_eq, State.actPost, State.postOutcomeByte, path]
  simp only
  rw [pool, held]
  rfl

/-- A timed POST that is ahead enters the calendar (R25). -/
theorem acceptPost_of_insert {t : State} {m : Master} {f : PostFields} (path : f.path t.count = .insert) :
    t.acceptPost m f = (t.issued.insertTimed { core := f.core t.nextTicket m, due := f.due },
      postAnswer t 1 (t.poolUsed + 1) (t.held m + 1)) := by
  have path : f.path t.issued.count = .insert := path
  have pool := t.issued.poolUsed_insertTimed { core := f.core t.nextTicket m, due := f.due }
  have held := t.issued.held_insertTimed (e := { core := f.core t.nextTicket m, due := f.due }) (m := m) rfl
  rw [acceptPost_eq, State.actPost, State.postOutcomeByte, path]
  simp only
  rw [pool, held]
  rfl

/-- Any other POST acts at the taking, and then takes its repeat step (R26, R27). -/
theorem acceptPost_of_execute {t u : State} {m : Master} {f : PostFields} {late : Bool} (path : f.path t.count = .execute late)
    (acted : (t.issued.runAction (f.core t.nextTicket m)).repeatFrom (f.core t.nextTicket m) t.count = u) :
    t.acceptPost m f = (u, postAnswer t
      (postOutcomeCode (takingOutcome late (t.issued.decideExecution (f.core t.nextTicket m))) ||| (if retains (f.core t.nextTicket m) then 0x80 else 0x00))
      u.poolUsed (u.held m)) := by
  have path : f.path t.issued.count = .execute late := path
  rw [acceptPost_eq, State.actPost, State.postOutcomeByte, path, ← acted]
  rfl

/-- The pool after the guard, the trip state and the action is the pool before them. -/
theorem State.pool_runAction (s : State) (e : EntryCore) (m : Master) :
    (s.runAction e).poolUsed = s.poolUsed ∧ (s.runAction e).held m = s.held m := by
  unfold State.runAction
  split
  · rw [s.applyAction_frame e.line e.action e.ticket]; exact ⟨rfl, rfl⟩
  · exact ⟨rfl, rfl⟩
  · exact ⟨rfl, rfl⟩

theorem repeatPart_core (f : PostFields) (tk : Ticket) (m : Master) :
    (f.core tk m).repeatPart = if f.flags.getLsbD 3 = true then some { interval := f.interval, remaining := f.executions } else none := rfl

/-- An execution at the taking that is the last leaves no entry (R27). -/
theorem acceptPost_of_last {t : State} {m : Master} {f : PostFields} {late : Bool} (path : f.path t.count = .execute late)
    (last : f.flags.getLsbD 3 = false ∨ f.executions = 1) :
    t.acceptPost m f = (t.issued.runAction (f.core t.nextTicket m),
      postAnswer t (postOutcomeCode (takingOutcome late (t.issued.decideExecution (f.core t.nextTicket m)))) t.poolUsed (t.held m)) := by
  have part := repeatPart_core f t.nextTicket m
  have ends : (f.core t.nextTicket m).repeatPart = none ∨ ∃ r, (f.core t.nextTicket m).repeatPart = some r ∧ r.remaining = 1 := by
    rw [part]
    cases repeats : f.flags.getLsbD 3 with
    | false => exact .inl rfl
    | true => exact .inr ⟨_, rfl, last.resolve_left (by simp [repeats])⟩
  have gone : retains (f.core t.nextTicket m) = false := by
    rcases ends with none | ⟨r, some, one⟩
    · rw [retains, none]
    · rw [retains, some]
      simp only
      rw [r.afterExecution_eq, if_pos one]
      rfl
  obtain ⟨pool, held⟩ := t.issued.pool_runAction (f.core t.nextTicket m) m
  rw [acceptPost_of_execute path (State.repeatFrom_of_last _ _ ends), gone, pool, held, if_neg (by decide)]
  exact congrArg (fun code => (_, postAnswer t code t.poolUsed (t.held m))) BitVec.or_zero

/-- An execution at the taking that is not the last leaves its entry, one interval later (R27). -/
theorem acceptPost_of_more {t : State} {m : Master} {f : PostFields} {late : Bool} (path : f.path t.count = .execute late)
    (repeats : f.flags.getLsbD 3 = true) (more : f.executions ≠ 1) :
    t.acceptPost m f = ((t.issued.runAction (f.core t.nextTicket m)).insertTimed
        { core := { f.core t.nextTicket m with repeatPart := some ⟨f.interval, if f.executions = 0 then 0 else f.executions - 1⟩ }
          due := t.count + f.interval.setWidth 32 },
      postAnswer t (postOutcomeCode (takingOutcome late (t.issued.decideExecution (f.core t.nextTicket m))) ||| 0x80) (t.poolUsed + 1) (t.held m + 1)) := by
  have part : (f.core t.nextTicket m).repeatPart = some { interval := f.interval, remaining := f.executions } :=
    (repeatPart_core f t.nextTicket m).trans (if_pos repeats)
  have stays : retains (f.core t.nextTicket m) = true := by
    rw [retains, part]
    simp only
    rw [RepeatPart.afterExecution_eq, if_neg more]
    rfl
  have inserted := (State.repeatFrom_of_more (t.issued.runAction (f.core t.nextTicket m)) t.count part more)
  rw [acceptPost_of_execute path inserted, stays, if_pos rfl]
  obtain ⟨pool, held⟩ := t.issued.pool_runAction (f.core t.nextTicket m) m
  have poolAfter := State.poolUsed_insertTimed (t.issued.runAction (f.core t.nextTicket m))
    { core := { f.core t.nextTicket m with repeatPart := some ⟨f.interval, if f.executions = 0 then 0 else f.executions - 1⟩ }
      due := t.count + f.interval.setWidth 32 }
  have heldAfter := State.held_insertTimed (m := m) (t.issued.runAction (f.core t.nextTicket m))
    (e := { core := { f.core t.nextTicket m with repeatPart := some ⟨f.interval, if f.executions = 0 then 0 else f.executions - 1⟩ }
            due := t.count + f.interval.setWidth 32 }) rfl
  rw [pool] at poolAfter
  rw [held] at heldAfter
  exact congrArg₂ (fun used held => (_, postAnswer t _ used held)) poolAfter heldAfter

/-! ### The parts of an entry and its path -/

/-- The line, the action and the parts of an entry, by the fields of its POST (section 11.3). -/
theorem core_eq (f : PostFields) (tk : Ticket) (m : Master) :
    f.core tk m =
      { ticket := tk, poster := m, line := Fin.ofNat 16 f.line.toNat
        action :=
          if f.action = 0 then .driveLow else if f.action = 1 then .driveHigh else if f.action = 2 then .toggle
          else if f.action = 3 then
            .train { period := f.period, fraction := BitVec.ofNat 4 f.trainByte.toNat, highTime := f.highTime, pulses := f.pulses
                     rest := if f.trainByte.getLsbD 4 then .high else .low, endNotice := f.trainByte.getLsbD 5 }
          else .trainStop
        repeatPart := if f.flags.getLsbD 3 then some { interval := f.interval, remaining := f.executions } else none
        guardPart :=
          if f.flags.getLsbD 4 then some { input := Fin.ofNat 8 f.guardByte.toNat, level := if f.guardByte.getLsbD 7 then .high else .low }
          else none
        runLate := f.flags.getLsbD 2, notify := f.flags.getLsbD 1 } := by
  rw [← lineOfByte_eq_ofNat, ← inputOfBits_eq_ofNat]
  rfl

/-- The trigger part, by the fields of its POST (section 11.3). -/
theorem trigger_eq (f : PostFields) :
    f.trigger =
      { input := Fin.ofNat 8 f.triggerByte.toNat, delay := f.delay
        edge := if f.triggerByte.toNat / 16 % 4 = 1 then .rise else if f.triggerByte.toNat / 16 % 4 = 2 then .fall else .either } := by
  rw [← edge_trigger, ← inputOfBits_eq_ofNat]
  rfl

/-- An immediate POST executes, and so does a timed one whose due is not ahead: late when it is behind (R25). -/
theorem path_of_execute {f : PostFields} {c : Word} (unarmed : f.flags.getLsbD 5 = false)
    (notAhead : f.flags.getLsbD 0 = true ∨ classify c f.due ≠ .ahead) :
    f.path c = .execute (decide (f.flags.getLsbD 0 = false ∧ classify c f.due = .behind)) := by
  rw [PostFields.path, flagTrigger, unarmed, flagImmediate]
  cases immediate : f.flags.getLsbD 0 with
  | true => rfl
  | false =>
    have notAhead := notAhead.resolve_left (by rw [immediate]; decide)
    cases due : classify c f.due with
    | ahead => exact absurd due notAhead
    | now => rfl
    | behind => rfl

end Sys2Proof.Machine
end

section

open Sys2Proof Sys2Proof.Machine

/-- Settles O35. -/
theorem postIsRefusedByItsFirstFailedCheck : Obligations.PostIsRefusedByItsFirstFailedCheck :=
  ⟨fun _ _ _ _ _ _ _ _ _ _ _ _ _ _ => postFields_postPayload .., fun _ _ _ tag _ _ taken active fails =>
    exec_post taken active (post_of_postCheck_some fails) tag⟩

/-- Settles O36. -/
theorem postLeavesATimedOrArmedEntry : Obligations.PostLeavesATimedOrArmedEntry := by
  refine ⟨fun f tk m => ⟨core_eq f tk m, trigger_eq f⟩, ?_⟩
  · intro s t m tag p taken active passes f tk armedEntry answer
    have accepted := post_of_postCheck_none passes
    refine ⟨fun arms => ?_, fun unarmed timed ahead => ?_⟩
    · exact exec_post taken active (accepted.trans (acceptPost_of_arm arms)) tag
    · have path : f.path t.count = .insert := by
        rw [PostFields.path, flagTrigger, unarmed, flagImmediate, timed, ahead]; rfl
      exact exec_post taken active (accepted.trans (acceptPost_of_insert path)) tag

/-- Settles O37. -/
theorem postExecutesAtTheTaking : Obligations.PostExecutesAtTheTaking := by
  intro s t m tag p taken active passes f tk e late unarmed notAhead t₁ guarded retained acts
  have accepted := post_of_postCheck_none passes
  have path : f.path t.count = .execute late := by
    exact path_of_execute unarmed notAhead
  have does {u : State} {outcome : Byte} (runs : t₁.runAction e = u)
      (code : postOutcomeCode (takingOutcome late (t₁.decideExecution e)) = outcome) : acts u outcome := by
    subst runs code
    refine ⟨fun last => exec_post taken active (accepted.trans (acceptPost_of_last path last)) tag, fun repeats more => ?_⟩
    exact exec_post taken active (accepted.trans (acceptPost_of_more path repeats more)) tag
  refine ⟨fun stops => ?_, fun passes tripped => ?_, fun passes normal => ?_⟩
  · have skipped : t₁.decideExecution e = .skipped := State.decideExecution_skipped stops
    exact does (by rw [State.runAction, skipped]) (by rw [skipped]; rfl)
  · have suppressed : t₁.decideExecution e = .suppressed := (State.decideExecution_of_not_guardStops passes).trans (if_pos tripped)
    exact does (by rw [State.runAction, suppressed]) (by rw [suppressed]; rfl)
  · have executed : t₁.decideExecution e = .executed :=
      (State.decideExecution_of_not_guardStops passes).trans (if_neg (by show t.trip.state ≠ .tripped; rw [normal]; decide))
    refine does (by rw [State.runAction, executed]; rfl) ?_
    rw [executed, takingOutcome]
    cases late <;> rfl

end

section
/-! PROOFS. The sample of the inputs and the accepted edge (O44, O45). -/

namespace Sys2Proof.Machine

/-! ### The sample of a tick -/

/-- What the sample of a tick does to one input: the first one sets the levels, a later one is handled by the filter (R111, R127). -/
def State.sampledInput (s : State) (r : InputRecord) (i : Fin 8) : InputRecord :=
  if s.sampled then r.sample s.count (pinLevel s.pins.inputs i) else r.firstSample (pinLevel s.pins.inputs i)

theorem State.sampleInput_eq (s : State) (i : Fin 8) : s.sampleInput i = s.setInput i (s.sampledInput (s.input i) i) := by
  unfold State.sampleInput State.sampledInput
  split <;> rfl

/-- A sample of all inputs samples each of them once. -/
theorem State.input_takeInputSample {s : State} (due : s.inputSampleDue = true) (i : Fin 8) :
    s.takeInputSample.input i = s.sampledInput (s.input i) i := by
  have each := view_foldl (view := State.input) (f := fun (u : State) i => u.sampleInput i) (g := fun i r => s.sampledInput r i)
    (fun u => ∀ r i, u.sampledInput r i = s.sampledInput r i)
    (fun u i same r j => by rw [u.sampleInput_eq]; exact same r j)
    (fun u i j same => by rw [u.sampleInput_eq, State.input_setInput, same]) nodup_allInputs (s := s) (fun _ _ => rfl) i
  rw [if_pos (mem_allInputs i)] at each
  rw [State.takeInputSample, if_pos due]
  exact each

theorem State.sampled_takeInputSample {s : State} (due : s.inputSampleDue = true) : s.takeInputSample.sampled = true := by
  rw [State.takeInputSample, if_pos due]
  rfl

/-- A candidate of this very tick has been held for no tick: it passes a filter of length zero alone. -/
theorem candidatePasses_now (c : Word) (q : Byte) : candidatePasses c c q = decide (q = 0) := by
  unfold candidatePasses distance
  rw [BitVec.sub_self]
  exact decide_eq_decide.mpr ⟨fun none => BitVec.eq_of_toNat_eq (Nat.le_zero.mp none), fun none => by rw [none]; rfl⟩

theorem InputRecord.sample_of_same {r : InputRecord} {v : Level} (c : Word) (same : v = r.filtered) :
    r.sample c v = { r with raw := v, filter := .stable } := if_pos same

theorem InputRecord.sample_of_stable {r : InputRecord} {v : Level} (c : Word) (differs : v ≠ r.filtered) (stable : r.filter = .stable) :
    r.sample c v = { r with raw := v, filter := .candidate c (decide (r.filterLength = 0)) } := by
  rw [InputRecord.sample, if_neg differs, stable, candidatePasses_now]

theorem InputRecord.sample_of_candidate {r : InputRecord} {v : Level} {e : Word} {b : Bool} (c : Word) (differs : v ≠ r.filtered)
    (candidate : r.filter = .candidate e b) :
    r.sample c v = { r with raw := v, filter := .candidate e (decide (r.filterLength.toNat ≤ (c - e).toNat)) } := by
  rw [InputRecord.sample, if_neg differs, candidate]
  rfl

/-! ### The accepted edge -/

/-- The edge select includes a direction: BOTH, or its own (R115). -/
theorem selectIncludes_iff (k : EdgeSelect) (d : Direction) :
    selectIncludes k d = true ↔ k = .both ∨ (k = .rise ∧ d = .rise) ∨ (k = .fall ∧ d = .fall) := by
  cases k <;> cases d <;> decide

/-- The new level and the direction of an edge, by the level before it. -/
theorem opposite_eq (v : Level) : opposite v = if v = .low then .high else .low := by cases v <;> rfl

theorem edgeTo_opposite (v : Level) : edgeTo (opposite v) = if v = .low then .rise else .fall := by cases v <;> rfl

theorem selectIncludes_opposite_iff (k : EdgeSelect) (v : Level) :
    selectIncludes k (edgeTo (opposite v)) = true ↔ k = .both ∨ (k = .rise ∧ v = .low) ∨ (k = .fall ∧ ¬ v = .low) := by
  rw [selectIncludes_iff, edgeTo_opposite]
  cases v <;> simp

theorem State.takeEdge_of_candidate {s : State} {i : Fin 8} {e : Word} (due : (s.input i).filter = .candidate e true) :
    s.takeEdge i = s.acceptEdge i e := by
  rw [State.takeEdge, due]

/-- An accepted edge that is not included changes the filtered level alone. -/
theorem State.acceptEdge_of_not_included {s : State} {i : Fin 8} (e : Word)
    (leaves : ¬ selectIncludes (s.input i).select (edgeTo (opposite (s.input i).filtered)) = true) :
    s.acceptEdge i e = s.setInput i { s.input i with filtered := opposite (s.input i).filtered, filter := .stable } := by
  rw [State.acceptEdge]
  exact if_neg leaves

/-- An accepted edge that is included raises the sequence, and is delivered and offered. -/
theorem State.acceptEdge_of_included {s : State} {i : Fin 8} (e : Word)
    (includes : selectIncludes (s.input i).select (edgeTo (opposite (s.input i).filtered)) = true) :
    s.acceptEdge i e =
      ((s.setInput i { s.input i with
          filtered := opposite (s.input i).filtered, filter := .stable, sequence := (s.input i).sequence + 1 }).deliver
        { input := i, edge := edgeTo (opposite (s.input i).filtered), gap := false, sequence := (s.input i).sequence + 1, timestamp := e }).offer i
          (edgeTo (opposite (s.input i).filtered)) e := by
  rw [State.acceptEdge]
  refine (if_pos includes).trans ?_
  simp only [State.recordEdge, State.input_setInput_self, State.setInput_setInput]

end Sys2Proof.Machine
end

section

open Sys2Proof Sys2Proof.Machine

/-- Settles O44: each input is sampled once, and the filter handles the sample by the level and the state it finds. -/
theorem inputSampleRunsTheFilters : Obligations.InputSampleRunsTheFilters := by
  intro s pins high
  have row : exec (.inputSample pins) s = .next (s.setInputPins pins).takeInputSample :=
    congrArg Host.Outcome.next (State.unlessReset_of_high (s := s.setInputPins pins) high _)
  refine ⟨fun due => ?_, fun taken => ?_⟩
  · have due : (s.setInputPins pins).inputSampleDue = true := due
    refine ⟨_, row, ?_, ?_⟩
    · have frame := (s.setInputPins pins).takeInputSample_frame
      rwa [State.sampled_takeInputSample due] at frame
    · intro i r v
      have each := State.input_takeInputSample due i
      refine ⟨fun first => ?_, fun later same => ?_, fun later differs stable => ?_, fun later differs e b candidate => ?_⟩
      · exact each.trans (if_neg (by show ¬ s.sampled = true; rw [first]; decide))
      · exact (each.trans (if_pos later)).trans (InputRecord.sample_of_same (r := r) s.count same)
      · exact (each.trans (if_pos later)).trans (InputRecord.sample_of_stable (r := r) s.count differs stable)
      · exact (each.trans (if_pos later)).trans (InputRecord.sample_of_candidate (r := r) s.count differs candidate)
  · rw [row, State.takeInputSample, if_neg (by show ¬ s.inputSampleDue = true; rw [taken]; decide)]
    rfl

/-- Settles O45. -/
theorem acceptedEdgeIsRecordedAndOffered : Obligations.AcceptedEdgeIsRecordedAndOffered := by
  intro s i e high due r rises level direction included
  have row : exec (.acceptedEdge i) s = .next (s.acceptEdge i e) :=
    congrArg Host.Outcome.next ((State.unlessReset_of_high high _).trans (State.takeEdge_of_candidate due))
  have newLevel : opposite (s.input i).filtered = level := opposite_eq _
  have edge : edgeTo (opposite (s.input i).filtered) = direction := edgeTo_opposite _
  have includes_iff : selectIncludes (s.input i).select direction = true ↔ included := by
    rw [← edge]
    exact selectIncludes_opposite_iff _ _
  refine ⟨fun leaves => ?_, fun includes => ?_⟩
  · have leaves := mt includes_iff.mp leaves
    rw [← edge] at leaves
    rw [row, State.acceptEdge_of_not_included e leaves, newLevel]
  · have includes := includes_iff.mpr includes
    rw [← edge] at includes
    rw [row, State.acceptEdge_of_included e includes, edge, newLevel]

end

section
/-! PROOFS. The queues of captures and notices (O48, O49, O50). -/

namespace Sys2Proof.Machine

/-! ### Ranges of a count byte -/

theorem not_outside_of_range {b : Byte} {top : Nat} (small : top < 256) (least : 1 ≤ b.toNat) (most : b.toNat ≤ top) :
    ¬ (b = 0 ∨ BitVec.ofNat 8 top < b) := by
  rintro (zero | above)
  · rw [zero] at least
    exact absurd least (by decide)
  · rw [BitVec.lt_def, BitVec.toNat_ofNat, Nat.mod_eq_of_lt small] at above
    omega

/-! ### The levels of the inputs as a mask -/

theorem getLsbD_one_shiftLeft (i j : Fin 8) : (1#8 <<< i.val).getLsbD j.val = decide (i = j) := by revert i j; decide

/-- A mask built over a list of inputs has the bits of those inputs of the list whose condition holds. -/
theorem getLsbD_foldl_mask (c : Fin 8 → Prop) [DecidablePred c] (is : List (Fin 8)) (b : Byte) (j : Fin 8) :
    (is.foldl (fun b i => if c i then b ||| (1#8 <<< i.val) else b) b).getLsbD j.val = (b.getLsbD j.val || decide (j ∈ is ∧ c j)) := by
  induction is generalizing b with
  | nil => simp
  | cons i is ih =>
    rw [List.foldl_cons, ih]
    by_cases set : c i
    · rw [if_pos set, BitVec.getLsbD_or, getLsbD_one_shiftLeft, Bool.or_assoc]
      refine congrArg _ ?_
      by_cases same : i = j
      · subst same; simp [set]
      · simp [same, Ne.symm same]
    · rw [if_neg set]
      by_cases same : j = i
      · subst same; simp [set]
      · simp [same]

/-- Bit i of a level mask is the level of input i (R124). -/
theorem State.getLsbD_levelMask (s : State) (f : InputRecord → Level) (i : Fin 8) :
    (s.levelMask f).getLsbD i.val = true ↔ f (s.input i) = .high := by
  unfold State.levelMask
  rw [getLsbD_foldl_mask (fun i => f (s.input i) = .high) allInputs 0 i]
  simp [mem_allInputs]

/-! ### The commands of the queues -/

/-- A record has the layout of section 11.4: the input, the edge in bit 4 and the gap flag in bit 7, the sequence, the timestamp. -/
theorem CaptureRecord.bytes_eq (r : CaptureRecord) :
    r.bytes = [countByte r.input.val ||| (if r.edge = .rise then 0x10 else 0) ||| (if r.gap then 0x80 else 0), r.sequence] ++ bytes32 r.timestamp := by
  rw [CaptureRecord.bytes]
  cases r.edge <;> rfl

theorem subscribe_eq {w : Byte} (least : 1 ≤ w.toNat) (most : w.toNat ≤ 16) (m : Master) (mask : Byte) (t : State) :
    subscribe m [mask, w] t =
      (t.setCapture m { t.capture m with subscription := mask, watermark := w.toNat },
        ⟨.ok, [mask, w, countByte (t.capture m).queue.length]⟩) := by
  have range := not_outside_of_range (by decide) least most
  rw [subscribe, if_neg (by simpa [byteAt] using range)]
  rfl

theorem readCaptures_eq {n : Byte} (least : 1 ≤ n.toNat) (most : n.toNat ≤ 5) (m : Master) (t : State) :
    readCaptures m [n] t =
      (t.setCapture m { t.capture m with queue := (t.capture m).queue.drop n.toNat, lost := 0 },
        ⟨.ok, [countByte ((t.capture m).queue.length - n.toNat), (t.capture m).lost] ++
          (((t.capture m).queue.take n.toNat).map CaptureRecord.bytes).flatten⟩) := by
  have range := not_outside_of_range (by decide) least most
  rw [readCaptures, if_neg (by simpa [byteAt] using range), ← List.length_drop]
  rfl

theorem readNotices_eq {n : Byte} (least : 1 ≤ n.toNat) (most : n.toNat ≤ 3) (m : Master) (t : State) :
    readNotices m [n] t =
      (t.setNotices m { queue := (t.noticeQueue m).queue.drop n.toNat, lost := 0 },
        ⟨.ok, [countByte ((t.noticeQueue m).queue.length - n.toNat), (t.noticeQueue m).lost] ++
          (((t.noticeQueue m).queue.take n.toNat).map Notice.bytes).flatten⟩) := by
  have range := not_outside_of_range (by decide) least most
  rw [readNotices, if_neg (by simpa [byteAt] using range), ← List.length_drop]
  rfl

/-! ### Notices and the attention line -/

theorem State.notify_of_inactive {s : State} {m : Master} (n : Notice) (inactive : s.isActive m = false) : s.notify m n = s :=
  if_neg (by rw [inactive]; decide)

theorem State.noticeQueue_notify_self {s : State} {m : Master} (n : Notice) (active : s.isActive m = true) :
    (s.notify m n).noticeQueue m = (s.noticeQueue m).store n := by
  rw [State.noticeQueue_notify, if_pos ⟨rfl, active⟩]

theorem State.attention_iff (s : State) (m : Master) :
    s.attention m = true ↔ s.session m ≠ .closed ∧ ((s.noticeQueue m).queue ≠ [] ∨ (s.capture m).watermark ≤ (s.capture m).queue.length) := by
  simp only [State.attention, Bool.and_eq_true, Bool.or_eq_true, decide_eq_true_eq, Bool.not_eq_true', List.isEmpty_eq_false_iff, ne_eq]

end Sys2Proof.Machine
end

section

open Sys2Proof Sys2Proof.Machine

/-- Settles O48. -/
theorem subscribeAndReadInputs : Obligations.SubscribeAndReadInputs :=
  ⟨fun _ t m tag mask _ taken active least most => exec_of_active taken active (c := .subscribe) rfl rfl (subscribe_eq least most m mask t) tag,
    fun _ t m tag taken => ⟨t.levelMask InputRecord.raw, t.levelMask InputRecord.filtered,
      exec_of_meaning taken (c := .readInputs) (p := []) (commonRefusal_of_any rfl rfl rfl m) rfl tag,
      fun i => ⟨t.getLsbD_levelMask _ i, t.getLsbD_levelMask _ i⟩⟩⟩

/-- Settles O49: the records are written in the layouts of section 11.4, one after another. -/
theorem readsRemoveTheOldestRecords : Obligations.ReadsRemoveTheOldestRecords := by
  refine ⟨?_, ?_⟩
  · intro s t m tag n taken active least most k
    have row := exec_of_active taken active (c := .readCaptures) rfl rfl (readCaptures_eq least most m t) tag
    rw [funext CaptureRecord.bytes_eq] at row
    exact row
  · intro s t m tag n taken least most q kind
    have layout (r : Notice) : r.bytes =
        [kind r.kind] ++ bytes16 r.ticket ++ [match r.line with | none => 0xFF | some l => countByte l.val] ++ [r.detail] ++ bytes32 r.timestamp := by
      have code : noticeKindCode r.kind = kind r.kind := by cases r.kind <;> rfl
      rw [Notice.bytes, code]
      cases r.line <;> rfl
    have row := exec_of_meaning taken (c := .readNotices) (commonRefusal_of_any rfl rfl rfl m) (readNotices_eq least most m t) tag
    rw [funext layout] at row
    exact row

/-- Settles O50: a notice is stored in the queue of its master alone, and only while that master is ACTIVE. -/
theorem noticeReachesActiveMasterOnly : Obligations.NoticeReachesActiveMasterOnly := by
  refine ⟨fun s m n => ⟨s.notify_frame m n, fun x other => ?_, State.notify_of_inactive n, fun active room => ?_, fun active full => ?_⟩,
    fun q n => rfl, State.attention_iff⟩
  · rw [State.noticeQueue_notify, if_neg fun same => other same.1]
  · exact (State.noticeQueue_notify_self n active).trans (if_pos room)
  · exact (State.noticeQueue_notify_self n active).trans (if_neg (Nat.not_lt.mpr full))

end

section
/-! PROOFS. The trip input and CLEAR_TRIP (O51, O52, O53). -/

namespace Sys2Proof.Machine

/-! ### The rows of the trip input -/

/-- The rows of the trip input: the pin takes its level, and the sample of the tick follows if it is still due (log 4). -/
theorem exec_tripRow {s : State} (high : s.pins.resetN = .high) (due : s.tripSampleDue = true) (v : Level) :
    (s.setTripPin v).unlessReset State.takeTripSample =
      ({ s with pins := { s.pins with tripN := v }, tripSampleDue := false } : State).sampleTrip :=
  (State.unlessReset_of_high (s := s.setTripPin v) high _).trans (if_pos due)

/-- With the sample of the tick taken, a row of the trip input sets the pin alone. -/
theorem exec_tripRow_of_taken {s : State} (taken : s.tripSampleDue = false) (v : Level) :
    (s.setTripPin v).unlessReset State.takeTripSample = { s with pins := { s.pins with tripN := v } } :=
  State.unlessReset_keeps (P := (· = ({ s with pins := { s.pins with tripN := v } } : State)))
    (fun _ => if_neg (by show ¬ s.tripSampleDue = true; rw [taken]; decide)) rfl

/-! ### The trip -/

theorem State.sampleTrip_of_normal_low {s : State} (normal : s.trip.state = .normal) (low : s.pins.tripN = .low) : s.sampleTrip = s.tripNow := by
  rw [State.sampleTrip, normal, low]

theorem State.sampleTrip_of_tripped {s : State} (tripped : s.trip.state = .tripped) : s.sampleTrip = s.sampleTripped s.pins.tripN := by
  rw [State.sampleTrip, tripped]

/-- A high sample sets the last sample, in NORMAL and while TRIPPED alike. -/
theorem State.sampleTrip_of_high {s : State} (high : s.pins.tripN = .high) :
    s.sampleTrip = { s with trip := { s.trip with lastSample := .high } } := by
  rw [State.sampleTrip, high]
  cases s.trip.state with
  | normal => rfl
  | tripped =>
    simp only [State.sampleTripped]
    rw [if_neg fun fall => by cases fall.2]

/-- The count of falls while TRIPPED: it rises when the last sample was HIGH, up to 255. -/
theorem fallCount_eq (last : Level) (count : Byte) :
    (if last = .high ∧ Level.low = .low then satInc count else count) = if last = .low ∨ count = 255 then count else count + 1 := by
  cases last with
  | low => rfl
  | high =>
    rw [if_pos ⟨rfl, rfl⟩, satInc]
    simp only [reduceCtorEq, false_or]
    by_cases full : count = 255
    · rw [if_pos full, if_pos full, full]
    · rw [if_neg full, if_neg full]

/-- A low sample while TRIPPED sets the last sample and counts a fall, nothing else (R162). -/
theorem State.sampleTripped_low (s : State) :
    s.sampleTripped .low = { s with trip := { s.trip with
      lastSample := .low
      count := if s.trip.lastSample = .low ∨ s.trip.count = 255 then s.trip.count else s.trip.count + 1 } } :=
  congrArg (fun c => { s with trip := { s.trip with lastSample := .low, count := c } }) (fallCount_eq ..)

/-- The trip changes the trip record, the lines, the generators and the notice queues alone. -/
theorem State.tripNow_frame (s : State) :
    s.tripNow = { s with
      trip := { state := .tripped, count := satInc s.trip.count, timestamp := s.count, lastSample := .low }
      lines := s.tripNow.lines, gens := s.tripNow.gens, notices := s.tripNow.notices } := by
  have told := s.markTripped.restAll.notifyAll_frame (trippedNotice s.markTripped)
  have rested := s.markTripped.restAll_frame
  rw [State.tripNow]
  generalize s.markTripped.restAll = u at told rested ⊢
  generalize u.notifyAll (trippedNotice s.markTripped) = v at told ⊢
  rw [told, rested]
  rfl

theorem State.line_tripNow (s : State) (l : Fin 16) : s.tripNow.line l = { s.line l with mode := .static, level := (s.line l).safe } := by
  have rested := s.markTripped.line_restAll l
  have told := s.markTripped.restAll.notifyAll_frame (trippedNotice s.markTripped)
  rw [State.tripNow]
  generalize s.markTripped.restAll = u at told rested ⊢
  rw [told]
  exact rested

theorem State.gen_tripNow (s : State) (l : Fin 16) : s.tripNow.gen l = Generator.idle := by
  have rested := s.markTripped.gen_restAll l
  have told := s.markTripped.restAll.notifyAll_frame (trippedNotice s.markTripped)
  rw [State.tripNow]
  generalize s.markTripped.restAll = u at told rested ⊢
  rw [told]
  exact rested

theorem State.noticeQueue_tripNow (s : State) (m : Master) :
    s.tripNow.noticeQueue m = if s.isActive m = true then (s.noticeQueue m).store (trippedNotice s.markTripped) else s.noticeQueue m := by
  have rested := s.markTripped.restAll_frame
  rw [State.tripNow, State.noticeQueue_notifyAll]
  generalize s.markTripped.restAll = u at rested ⊢
  rw [rested]
  rfl

/-! ### CLEAR_TRIP -/

/-- CLEAR_TRIP is served at the configuring port, or, when there is none, to an ACTIVE master (R181). -/
theorem commonRefusal_clearTrip {t : State} {m : Master}
    (who : (t.configPort = some m ∧ t.session m ≠ .lapsed) ∨ (t.configPort = none ∧ t.isActive m = true)) :
    t.commonRefusal m .clearTrip 0 = none := by
  rcases who with ⟨port, session⟩ | ⟨noPort, active⟩
  · exact commonRefusal_of_configPort (c := .clearTrip) rfl port session rfl
  · exact commonRefusal_of_active active (by rw [noPort]; rfl) fun _ fixed => Option.some.inj fixed

theorem clearTrip_of_normal {t : State} (m : Master) (normal : t.trip.state = .normal) :
    clearTrip m [] t = (t, ⟨.already, t.tripPayload⟩) := by
  rw [clearTrip, normal]

theorem clearTrip_of_low {t : State} (m : Master) (tripped : t.trip.state = .tripped) (low : t.trip.lastSample = .low) :
    clearTrip m [] t = (t, ⟨.tripActive, []⟩) := by
  rw [clearTrip, tripped, low]
  rfl

theorem clearTrip_of_high {t : State} (m : Master) (tripped : t.trip.state = .tripped) (high : t.trip.lastSample = .high) :
    clearTrip m [] t = (t.clearNow m, ⟨.ok, (t.clearNow m).tripPayload⟩) := by
  rw [clearTrip, tripped, high]

/-- The clearing changes the trip state and the notice queues alone. -/
theorem State.clearNow_frame (s : State) (m : Master) :
    s.clearNow m = { s with trip := { s.trip with state := .normal }, notices := (s.clearNow m).notices } :=
  State.notifyAll_frame ..

end Sys2Proof.Machine
end

section

open Sys2Proof Sys2Proof.Machine

/-- Settles O51. -/
theorem lowSampleTripsThePart : Obligations.LowSampleTripsThePart := by
  intro i mem s high due normal count
  have row : exec i s = .next (({ s with pins := { s.pins with tripN := .low }, tripSampleDue := false } : State).tripNow) := by
    have sampled := (exec_tripRow high due .low).trans (State.sampleTrip_of_normal_low normal rfl)
    rcases List.mem_pair.mp mem with rfl | rfl
    · exact congrArg Host.Outcome.next sampled
    · exact congrArg Host.Outcome.next sampled
  exact ⟨_, row, State.tripNow_frame _, fun l => ⟨State.line_tripNow _ l, State.gen_tripNow _ l⟩, fun m => State.noticeQueue_tripNow _ m⟩

/-- Settles O52. -/
theorem samplesWhileTripped : Obligations.SamplesWhileTripped := by
  refine ⟨?_, ?_, ?_⟩
  · intro i mem s high due tripped
    have sampled := ((exec_tripRow high due .low).trans (State.sampleTrip_of_tripped tripped)).trans (State.sampleTripped_low _)
    rcases List.mem_pair.mp mem with rfl | rfl
    · exact congrArg Host.Outcome.next sampled
    · exact congrArg Host.Outcome.next sampled
  · intro s high due
    exact congrArg Host.Outcome.next ((exec_tripRow high due .high).trans (State.sampleTrip_of_high rfl))
  · intro s taken
    have pinAlone (v : Level) := congrArg (Host.Outcome.next (φ := Fault) (ρ := Refusal)) (exec_tripRow_of_taken taken v)
    exact ⟨pinAlone .low, pinAlone .low, pinAlone .high⟩

/-- Settles O53. -/
theorem clearTripFollowsItsTable : Obligations.ClearTripFollowsItsTable := by
  intro s t m tag taken who
  have answers {u : State} {r : Reply} (does : clearTrip m [] t = (u, r)) : exec (.clearTrip m tag []) s = .next (u.respond m tag 0x60 r) :=
    exec_of_meaning taken (c := .clearTrip) (p := []) (commonRefusal_clearTrip who) does tag
  refine ⟨fun normal => ?_, fun tripped low => answers (clearTrip_of_low m tripped low), fun tripped high => ⟨t.clearNow m, ?_, t.clearNow_frame m, ?_⟩⟩
  · have row := answers (clearTrip_of_normal m normal)
    rw [State.tripPayload, normal] at row
    exact row
  · have row := answers (clearTrip_of_high m tripped high)
    have payload : (t.clearNow m).tripPayload = [0, t.trip.count] ++ bytes32 t.trip.timestamp := by rw [State.tripPayload, t.clearNow_frame m]; rfl
    rwa [payload] at row
  · intro x
    exact State.noticeQueue_notifyAll ..

end
